-- ==== Sys2Proof/Word.lean ====
section
/-! DEFINITION. The words of the UG-3140: a byte of a frame, a 16-bit identity (tote tag, order), a belt position
(section 0.6.1: a modular number from 0 to 2^24 - 1) and a set of the 21 note kinds (R168). -/

namespace Sys2Proof

/-- One byte of a frame on the ring line (R146). -/
abbrev Byte := BitVec 8

/-- A tote tag, an order number or the value field of a note: two bytes of a frame (section 0.6.4, Table 9-8). -/
abbrev Ident := BitVec 16

/-- A belt position, 0 to 16,777,215; all sums of positions are taken modulo 16,777,216 (section 0.6.1). -/
abbrev Pos := BitVec 24

/-- A set of note kinds: kind k stands in bit k - 1 (R168). -/
abbrev KindSet := BitVec 21

end Sys2Proof
end

