-- ==== Sys2Proof/Syntax.lean ====
section
/-! DEFINITION. The commands of the UG-3140: one constructor for each row of spec/opcode_table.json, with the operands
that the row's event carries (a level taken by a pin, a frame, the fields of an ask). -/

namespace Sys2Proof

/-- The levels of the input pins but ENC, whose last level is the Belt Counter's reference level (Table 0-5); `true` is
the high level. HOME is held as active or not, since the manual names no level for it. Zone eye k stands at place
k - 1. -/
structure InputLevels where
  eye    : Bool
  home   : Bool
  zeye   : Vector Bool 8
  relBtn : Bool
  los    : Bool
  deriving DecidableEq, Repr

/-- The five kinds of frame (Table 9-5). -/
inductive FrameKind where
  | number | tote | ask | answer | note
  deriving DecidableEq, Repr

/-- Header fields and payload of a frame whose kind the command names; sync, length and check are computed from them
(Table 9-5, R159). -/
structure LineFrame where
  target  : Byte
  source  : Byte
  tag     : Byte
  payload : List Byte
  deriving DecidableEq, Repr

/-- A valid frame of any kind (Table 9-5). -/
structure Frame where
  kind    : FrameKind
  target  : Byte
  source  : Byte
  tag     : Byte
  payload : List Byte
  deriving DecidableEq, Repr

/-- An ASK frame whose ask code the command names: the payload is that code followed by `fields` (Table 9-7). -/
structure Ask where
  target : Byte
  source : Byte
  tag    : Byte
  fields : List Byte
  deriving DecidableEq, Repr

/-- A complete frame as it comes on RXD: the levels of the line, one for each bit time, from the first start bit after an idle to
the next idle (R146); `true` is the high level. -/
structure RawFrame where
  levels : List Bool
  deriving DecidableEq, Repr

/-- The commands, in the order of spec/opcode_table.json. -/
inductive Instr where
  /-- POWER_ON (R14): supply is applied and ENC and the other inputs are sampled at these levels. -/
  | powerOn (enc : Bool) (levels : InputLevels)
  /-- RESET_PIN_ASSERT (R158): RESET_N goes low. -/
  | resetPinAssert
  /-- RESET_PIN_RELEASE (R170): RESET_N returns high. -/
  | resetPinRelease
  /-- ENCODER_EDGE (R1): ENC takes this level. -/
  | encoderEdge (level : Bool)
  /-- GATE_EXPIRY (R9): the gate ends. -/
  | gateExpiry
  /-- EYE_CHANGE (R15): EYE takes this level. -/
  | eyeChange (level : Bool)
  /-- TRAILING_EDGE (R20): P has reached the end of the clear debounce. -/
  | trailingEdge
  /-- BLOCKED_DEADLINE (R24): P has reached the blocked-too-long deadline. -/
  | blockedDeadline
  /-- TOTE_FRAME (R30): a valid TOTE frame arrives. -/
  | toteFrame (frame : LineFrame)
  /-- HEAD_DEADLINE_EXPIRY (R36): P has reached the head deadline. -/
  | headDeadlineExpiry
  /-- RESERVATION_EXPIRY (R87): P has reached the expiry of a reservation entry. -/
  | reservationExpiry
  /-- FIRE_REACHED (R102): P has reached the fire position. -/
  | fireReached
  /-- THROW_END (R103): the THROW phase ends with HOME active or not. -/
  | throwEnd (home : Bool)
  /-- RELEASE_REACHED (R104): P has reached the release position. -/
  | releaseReached
  /-- RETURN_END (R105): the RETURN phase ends with HOME active or not. -/
  | returnEnd (home : Bool)
  /-- HOME_ACTIVE (R105): HOME becomes active. -/
  | homeActive
  /-- HOME_WAIT_EXPIRY (R105): the home wait ends with HOME not active. -/
  | homeWaitExpiry
  /-- ZONE_EYE_CHANGE (R115): the eye of the zone numbered `zone` + 1 takes this level. -/
  | zoneEyeChange (zone : Fin 8) (level : Bool)
  /-- TRANSFER_TIMEOUT (R124): the transfer timer of the zone numbered `zone` + 1 runs out. -/
  | transferTimeout (zone : Fin 8)
  /-- ENTRY_DEADLINE (R120): P has reached the entry deadline of an inbound record. -/
  | entryDeadline
  /-- DISCHARGE_TIMEOUT (R126): the discharge timer runs out. -/
  | dischargeTimeout
  /-- BUTTON_CHANGE (R136): REL_BTN takes this level; it is active when low. -/
  | buttonChange (level : Bool)
  /-- BUTTON_PRESS (R136): the button timer reaches 20 ms. -/
  | buttonPress
  /-- WAIT_LAMP_EXPIRY (R143): the WAIT lamp timer reaches 2,000 ms. -/
  | waitLampExpiry
  /-- LOS_CHANGE (R145): LOS takes this level, with a frame partly received or not. -/
  | losChange (level : Bool) (partly : Bool)
  /-- FRAME_ERROR (R147): a complete frame that fails a receive check. -/
  | frameError (raw : RawFrame)
  /-- NUMBER_FRAME (R149): a NUMBER frame arrives. -/
  | numberFrame (frame : LineFrame)
  /-- FORWARD_FRAME (R148): an ANSWER, NOTE or foreign ASK frame arrives. -/
  | forwardFrame (frame : Frame)
  /-- TRANSMITTER_FREE (R154): the idle gap after a sent frame is over. -/
  | transmitterFree
  /-- UNKNOWN_ASK (R160): an ask with no code, or a code not in Table 9-9. -/
  | unknownAsk (frame : LineFrame)
  /-- READ_STATUS (R161), code 01h. -/
  | readStatus (ask : Ask)
  /-- READ_IDENTITY (R161), code 02h. -/
  | readIdentity (ask : Ask)
  /-- READ_TRACKING (R162), code 03h. -/
  | readTracking (ask : Ask)
  /-- READ_LANE (R163), code 04h. -/
  | readLane (ask : Ask)
  /-- READ_RESERVATIONS (R163), code 05h. -/
  | readReservations (ask : Ask)
  /-- SET_WINDOW (R52), code 10h. -/
  | setWindow (ask : Ask)
  /-- WRITE_ENTRIES (R55), code 11h. -/
  | writeEntries (ask : Ask)
  /-- CONTINUE_ENTRIES (R57), code 12h. -/
  | continueEntries (ask : Ask)
  /-- READ_ENTRIES (R61), code 13h. -/
  | readEntries (ask : Ask)
  /-- CONTINUE_READ (R62), code 14h. -/
  | continueRead (ask : Ask)
  /-- SWAP_PLAN (R63), code 15h. -/
  | swapPlan (ask : Ask)
  /-- COPY_PLAN (R65), code 16h. -/
  | copyPlan (ask : Ask)
  /-- SET_GEOMETRY (R92), code 20h. -/
  | setGeometry (ask : Ask)
  /-- SET_LINE (R164), code 21h. -/
  | setLine (ask : Ask)
  /-- SET_LANE (R131), code 22h. -/
  | setLane (ask : Ask)
  /-- SET_REPORTS (R168), code 23h. -/
  | setReports (ask : Ask)
  /-- CLEAR_FLAGS (R169), code 24h. -/
  | clearFlags (ask : Ask)
  /-- CLEAR_FAULT (R165), code 30h. -/
  | clearFault (ask : Ask)
  /-- PAUSE_LANE (R130), code 31h. -/
  | pauseLane (ask : Ask)
  /-- RESUME_LANE (R130), code 32h. -/
  | resumeLane (ask : Ask)
  /-- RELEASE (R165), code 33h. -/
  | release (ask : Ask)
  /-- NODE_RESET (R166), code 3Fh. -/
  | nodeReset (ask : Ask)
  /-- RECEIVER_IDLE_WAIT_END (R145): the receiver has seen 16 bit times of idle. -/
  | receiverIdleWaitEnd
  deriving DecidableEq, Repr

end Sys2Proof
end

