-- ==== Sys2Proof/Config.lean ====
section
/-! DEFINITION. The sizes that the manual fixes for the part. The manual leaves no value open to an implementation,
so there is no free value here (INVENTORY.md, "What the manual leaves open"). -/

namespace Sys2Proof.Config

/-- Records of the tracking queue (R29). -/
def trackingDepth : Nat := 16

/-- Records of the inbound list (R116). -/
def inboundDepth : Nat := 4

/-- Entries of the reservation table (R84). -/
def reservationDepth : Nat := 4

/-- Frames of the forward queue (R151). -/
def forwardDepth : Nat := 4

/-- Frames of the hand-off queue (R152). -/
def handOffDepth : Nat := 4

/-- Frames of the local queue (R153). -/
def localDepth : Nat := 8

/-- The greatest zone count (Table 7-1). -/
def maxZones : Nat := 8

/-- The greatest payload of a frame, in bytes (Table 9-5). -/
def maxPayload : Nat := 32

/-- The sync value A5h, first byte of every frame (Table 9-5). -/
def syncByte : Nat := 0xA5

/-- The limit of the credit count (R155). -/
def creditLimit : Nat := 3

/-- Milliseconds of unbroken activity that make a press (R136). -/
def pressTime : Nat := 20

/-- Milliseconds for which the WAIT lamp is lit (R143). -/
def waitLampTime : Nat := 2000

/-- The highest value of the line error count, at which it saturates (R147). -/
def maxErrors : Nat := 65535

/-- The highest value of the gate accumulator, at which it saturates (R8). -/
def maxAccumulator : Nat := 4095

/-- The only format version of a geometry descriptor (R92). -/
def descriptorFormat : Nat := 1

/-- Bit times of idle that end a frame at the receiver (R146). -/
def idleBits : Nat := 16

/-- Bytes at which a frame without an idle is spoiled (R146). -/
def spoiledLength : Nat := 41

end Sys2Proof.Config
end

