-- ==== Sys2Proof/Machine/State.lean ====
section
/-! DEFINITION. The state of the UG-3140: every register, queue, timer, mode and pin that the manual gives its eleven
blocks (Table 0-1), with the value after power-on, and the queue of waiting commands. -/

namespace Sys2Proof.Machine

/-! ### The Belt Counter (Tables 1-1 and 1-2) -/

/-- Encoder edge select (Table 1-1). -/
inductive EdgeSelect where
  | rising | falling | both
  deriving DecidableEq, Repr

/-- Gate length G: 32, 64, 128 or 256 ms (Table 1-1). -/
inductive GateLength where
  | ms32 | ms64 | ms128 | ms256
  deriving DecidableEq, Repr

/-- Belt state (Table 1-2). -/
inductive BeltState where
  | running | stopped
  deriving DecidableEq, Repr

/-- The Belt Counter (Tables 1-1 and 1-2). `speed` is S in counts per gate, `timer` the milliseconds of the gate in
progress and `encRef` the reference level of ENC. -/
structure Belt where
  edgeSelect : EdgeSelect
  gate       : GateLength
  pos        : Pos
  speed      : Nat
  acc        : Nat
  timer      : Nat
  state      : BeltState
  encRef     : Bool
  deriving DecidableEq, Repr

/-! ### Totes (Tables 3-2 and 0.6.4) -/

/-- The nine TOTE fields of a record (Table 3-2); destination `none` is NONE. -/
structure ToteFields where
  tag      : Ident
  order    : Ident
  dest     : Option (Fin 64)
  cls      : Fin 4
  seq      : Nat
  count    : Nat
  refusals : Nat
  source   : Byte
  adjusted : Bool
  deriving DecidableEq, Repr

/-- The outcome of the admission decision for one tote (section 5.3). -/
inductive ToteOutcome where
  | pass | passUnknown | refused | passedLate | diverted | crowded
  deriving DecidableEq, Repr

/-! ### The Eye Unit (Tables 2-1, 2-2 and 2-3) -/

/-- Polarity of the main eye and of the zone eyes (Tables 2-1 and 7-1). -/
inductive EyePolarity where
  | blockedLow | blockedHigh
  deriving DecidableEq, Repr

/-- Eye state (Table 2-2). -/
inductive EyeState where
  | clear | blocked | clearing
  deriving DecidableEq, Repr

/-- The tote-at-eye context (Table 2-3). -/
inductive EyeContext where
  | empty
  | matched (record : ToteFields) (lead : Pos) (outcome : ToteOutcome)
  | anonymous (lead : Pos) (outcome : ToteOutcome)
  | noLead
  deriving DecidableEq, Repr

/-- The blocked-too-long deadline with the maximum length it was set with, which is the value of EYE_BLOCKED (R24). -/
structure BlockedDeadline where
  pos       : Pos
  maxLength : Nat
  deriving DecidableEq, Repr

/-- The Eye Unit (Tables 2-1 and 2-2). -/
structure Eye where
  polarity        : EyePolarity
  debounce        : Nat
  maxLength       : Nat
  nominal         : Vector Nat 4
  tolerance       : Nat
  state           : EyeState
  lead            : Option Pos
  clearing        : Option Pos
  debounceEnd     : Option Pos
  blockedDeadline : Option BlockedDeadline
  context         : EyeContext
  deriving DecidableEq, Repr

/-! ### The Tracking Unit (Tables 3-1, 3-2 and 3-3) -/

/-- A tracking record: the nine TOTE fields, the expected position E and its window (Table 3-2). -/
structure TrackRecord where
  tote        : ToteFields
  expected    : Pos
  windowStart : Pos
  windowEnd   : Pos
  deriving DecidableEq, Repr

/-- The Tracking Unit (Tables 3-1 and 3-3); the queue stands in arrival order, the head first. -/
structure Tracking where
  upstream     : Nat
  early        : Nat
  late         : Nat
  queue        : List TrackRecord
  headDeadline : Option Pos
  deriving DecidableEq, Repr

/-! ### The Route Plan (Table 4-1) -/

/-- The action of one cell (R50). -/
inductive Action where
  | pass | divert | group
  deriving DecidableEq, Repr

/-- The names of the two banks (R51). -/
inductive Bank where
  | a | b
  deriving DecidableEq, Repr

/-- The order of the walk (R53). -/
inductive FillOrder where
  | destFirst | classFirst
  deriving DecidableEq, Repr

/-- A cell of a bank: a destination and a class. -/
structure Cell where
  dest : Fin 64
  cls  : Fin 4
  deriving DecidableEq, Repr

/-- A cursor: the cell its walk takes next, and its done flag (R53). -/
structure Cursor where
  cell : Cell
  done : Bool
  deriving DecidableEq, Repr

/-- One bank: a row of four actions for each destination (R50). -/
abbrev BankCells := Vector (Vector Action 4) 64

/-- The Route Plan (Table 4-1); the window is destinations `d0` to `d1` and classes `c0` to `c1`. -/
structure RoutePlan where
  bankA  : BankCells
  bankB  : BankCells
  active : Bank
  d0     : Fin 64
  d1     : Fin 64
  c0     : Fin 4
  c1     : Fin 4
  order  : FillOrder
  write  : Cursor
  read   : Cursor
  deriving DecidableEq, Repr

/-! ### The Admission Unit (Tables 5-1 and 5-2) -/

/-- A reservation entry (Table 5-2). -/
structure Reservation where
  order  : Ident
  zones  : Nat
  expiry : Pos
  deriving DecidableEq, Repr

/-- The Admission Unit; the reservation table stands in creation order, the oldest first. -/
structure Admission where
  refusalLimit : Nat
  span         : Nat
  table        : List Reservation
  deriving DecidableEq, Repr

/-! ### The Diverter Drive (Tables 6-1 and 6-2) -/

/-- The geometry descriptor (Table 6-1). -/
structure Geometry where
  eyeToPaddle : Nat
  throwTime   : Nat
  throwFloor  : Nat
  margin      : Nat
  returnTime  : Nat
  returnFloor : Nat
  grace       : Nat
  holdDuty    : Nat
  deriving DecidableEq, Repr

/-- Diverter state (Table 6-2). -/
inductive DiverterState where
  | rest | armed | throwing | holding | returning | fault
  deriving DecidableEq, Repr

/-- The part of the phase timer that runs (Table 6-2). -/
inductive PhasePart where
  | throwing | returning | homeWait
  deriving DecidableEq, Repr

/-- A running phase timer: its part, the milliseconds it has run, the length it started with and, in a home wait, the
milliseconds of the return part before it (R92, R108). -/
structure Phase where
  part    : PhasePart
  elapsed : Nat
  length  : Nat
  ran     : Nat
  deriving DecidableEq, Repr

/-- The Diverter Drive; `flag` is the divert-pending-trail flag and `duty` the hold duty in force in the present 1 ms
drive period (R92, R95). -/
structure Diverter where
  geometry : Geometry
  state    : DiverterState
  phase    : Option Phase
  fire     : Option Pos
  release  : Option Pos
  clear    : Option Pos
  flag     : Bool
  duty     : Nat
  deriving DecidableEq, Repr

/-! ### The Lane Controller (Tables 7-1, 7-2 and 7-3) -/

/-- Release mode (Table 7-1). -/
inductive ReleaseMode where
  | tote | order
  deriving DecidableEq, Repr

/-- Lane state (Table 7-2). -/
inductive LaneState where
  | running | paused | jammed
  deriving DecidableEq, Repr

/-- Zone state (R114). -/
inductive ZoneState where
  | empty | filling | held | passing
  deriving DecidableEq, Repr

/-- A lane record without an entry deadline: the nine TOTE fields and the CARRIED mark (Table 7-3). -/
structure LaneRecord where
  tote    : ToteFields
  carried : Bool
  deriving DecidableEq, Repr

/-- A record of the inbound list: a lane record with its entry deadline (R80). -/
structure InboundRecord where
  record   : LaneRecord
  deadline : Pos
  deriving DecidableEq, Repr

/-- A running transfer or discharge timer: the milliseconds it has run and its limit (Table 7-2). -/
structure Timer where
  elapsed : Nat
  limit   : Nat
  deriving DecidableEq, Repr

/-- One zone: its state, its record, its part-ended mark and its transfer timer (Table 7-2). -/
structure Zone where
  state     : ZoneState
  record    : Option LaneRecord
  partEnded : Bool
  timer     : Option Timer
  deriving DecidableEq, Repr

/-- An EMPTY zone, with no record, no mark and no timer. -/
def emptyZone : Zone := ⟨.empty, none, false, none⟩

/-- The Lane Controller; zone k stands at place k - 1, `zoneCount` is Z, and class k of the accepted classes is
bit k (R131). `lateTimeout` is the model's own: in this millisecond a discharge was completed with its timer at its limit, so the
timeout that came together with the completion may still be taken (R126, R141; DEDUCED, log entry 38). -/
structure Lane where
  zoneCount      : Nat
  accepted       : BitVec 4
  mode           : ReleaseMode
  transferLimit  : Nat
  dischargeLimit : Nat
  entryDistance  : Nat
  polarity       : EyePolarity
  state          : LaneState
  zones          : Vector Zone 8
  inbound        : List InboundRecord
  discharge      : Option Timer
  lateTimeout    : Bool
  deriving DecidableEq, Repr

/-! ### The Counter Interface (Table 8-1) -/

/-- Release state: IDLE, or RELEASING with part DISCHARGING or WAITING (Table 8-1). -/
inductive ReleaseState where
  | idle | discharging | waiting
  deriving DecidableEq, Repr

/-- Button state (Table 8-1). -/
inductive ButtonState where
  | armed | timing | spent
  deriving DecidableEq, Repr

/-- The Counter Interface (Table 8-1). -/
structure Counter where
  release     : ReleaseState
  mode        : ReleaseMode
  group       : Option Ident
  count       : Nat
  pressWaits  : Bool
  button      : ButtonState
  buttonTimer : Option Nat
  waitTimer   : Option Nat
  readyLit    : Bool
  deriving DecidableEq, Repr

/-! ### The Line Port (Table 9-1) -/

/-- Upstream link state (Table 9-1). -/
inductive LinkState where
  | up | down
  deriving DecidableEq, Repr

/-- The Line Port; `sending` is the frame the transmitter sends, with its idle gap (`none`: the transmitter is free), and
`receiverReady` says that the receiver may take the start of a frame (R145). -/
structure LinePort where
  link          : LinkState
  position      : Fin 63
  errors        : Nat
  forward       : List Frame
  handOff       : List Frame
  localQueue    : List Frame
  credit        : Nat
  sending       : Option Frame
  receiverReady : Bool
  deriving DecidableEq, Repr

/-! ### The Report Unit (Table 10-2) -/

/-- Reset cause (R161). -/
inductive ResetCause where
  | powerOn | resetPin | nodeReset
  deriving DecidableEq, Repr

/-- The Report Unit (Table 10-2). -/
structure Report where
  flags        : KindSet
  enables      : KindSet
  globalEnable : Bool
  lost         : Bool
  cause        : ResetCause
  deriving DecidableEq, Repr

/-! ### The node -/

/-- The whole node: its eleven blocks (the Request Unit keeps no state of its own), the levels on its input pins
(that of ENC is `belt.encRef`), RESET_N low or not, and the commands that wait, first in,
first out. -/
structure State where
  belt      : Belt
  eye       : Eye
  tracking  : Tracking
  plan      : RoutePlan
  admission : Admission
  diverter  : Diverter
  lane      : Lane
  counter   : Counter
  line      : LinePort
  report    : Report
  pins      : InputLevels
  resetLow  : Bool
  pending   : List Instr
  deriving DecidableEq, Repr

/-- The faults of a step. The manual names no event that stops this part (a diverter FAULT and a lane jam are states it
goes on in), so there is none. -/
inductive Fault where
  deriving DecidableEq, Repr

/-- The refusals of a step. -/
inductive Refusal where
  /-- Raised by an arm of exec whose command has no meaning yet; safe. No arm raises it. -/
  | notModelled (mnemonic : String)
  deriving DecidableEq, Repr

/-! ### The state after reset -/

/-- Every bank cell PASS (R68). -/
def passBank : BankCells := Vector.replicate 64 (Vector.replicate 4 .pass)

/-- The geometry descriptor after power-on (Table 6-1). -/
def powerOnGeometry : Geometry :=
  { eyeToPaddle := 600, throwTime := 90, throwFloor := 40, margin := 30, returnTime := 70, returnFloor := 20,
    grace := 50, holdDuty := 6 }

/-- Input levels with the field wiring at rest: eyes clear, the paddle home, the button not pressed, the upstream signal
present, ENC low. DESIGN CHOICE (log entry 7): the manual gives the inputs no value. -/
def restLevels : InputLevels :=
  { eye := true, home := true, zeye := Vector.replicate 8 true, relBtn := true, los := false }

/-- The node right after power-on (R14, R27, R48, R68, R91, R112, R133, R144, R156, R170) with its inputs at
`restLevels`. -/
def State.reset : State :=
  { belt := { edgeSelect := .rising, gate := .ms64, pos := 0, speed := 0, acc := 0, timer := 0, state := .stopped,
              encRef := false }
    eye := { polarity := .blockedLow, debounce := 8, maxLength := 1200, nominal := #v[400, 800, 400, 400],
             tolerance := 60, state := .clear, lead := none, clearing := none, debounceEnd := none,
             blockedDeadline := none, context := .empty }
    tracking := { upstream := 2000, early := 100, late := 100, queue := [], headDeadline := none }
    plan := { bankA := passBank, bankB := passBank, active := .a, d0 := 0, d1 := 63, c0 := 0, c1 := 3,
              order := .classFirst, write := ⟨⟨0, 0⟩, false⟩, read := ⟨⟨0, 0⟩, false⟩ }
    admission := { refusalLimit := 3, span := 40000, table := [] }
    diverter := { geometry := powerOnGeometry, state := .returning, phase := some ⟨.returning, 0, 70, 0⟩, fire := none,
                  release := none, clear := none, flag := false, duty := 6 }
    lane := { zoneCount := 4, accepted := 15, mode := .tote, transferLimit := 150, dischargeLimit := 200,
              entryDistance := 900, polarity := .blockedLow, state := .running, zones := Vector.replicate 8 emptyZone,
              inbound := [], discharge := none, lateTimeout := false }
    counter := { release := .idle, mode := .tote, group := none, count := 0, pressWaits := false, button := .armed,
                 buttonTimer := none, waitTimer := none, readyLit := false }
    line := { link := .up, position := 0, errors := 0, forward := [], handOff := [], localQueue := [], credit := 0,
              sending := none, receiverReady := false }
    report := { flags := 0, enables := 0, globalEnable := false, lost := false, cause := .powerOn }
    pins := restLevels
    resetLow := false
    pending := [] }

end Sys2Proof.Machine
end

