-- ==== Sys2Proof/Machine/Ops.lean ====
section
/-! DEFINITION. Shared operations over positions, numbers and the fields of a frame: signed distance (R5), clamping
(section 0.6.5), saturation, and the high-byte-first fields of section 9.9. -/

namespace Sys2Proof.Machine

/-- What a command answers: the next state, as no fault and no refusal belongs to this part. -/
abbrev StepResult := Host.Outcome State Fault Refusal

/-! ### Positions -/

/-- The signed distance from `b` to `a` (R5): (a - b) modulo 2^24, less 2^24 when that is 2^23 or more. -/
def signedDist (b a : Pos) : Int :=
  if (a - b).toNat < 8388608 then ((a - b).toNat : Int) else ((a - b).toNat : Int) - 16777216

/-- `a` is at or after `b` (R5). -/
def atOrAfter (a b : Pos) : Bool := decide (0 ≤ signedDist b a)

/-- `a` is before `b` (R5). -/
def isBefore (a b : Pos) : Bool := decide (signedDist b a < 0)

/-- A position deadline that is set while the signed distance from `now` to it is 0 or less is reached at once (R5). -/
def reachedWhenSet (now deadline : Pos) : Bool := decide (signedDist now deadline ≤ 0)

/-- A position moved forward by a number of counts (section 0.6.1). -/
def plus (p : Pos) (n : Nat) : Pos := p + BitVec.ofNat 24 n

/-- A position moved back by a number of counts (section 0.6.1). -/
def minus (p : Pos) (n : Nat) : Pos := p - BitVec.ofNat 24 n

/-! ### Numbers -/

/-- The nearer end of `lo` to `hi` for a value outside them, the value itself otherwise (section 0.6.5). -/
def clamp (lo hi v : Nat) : Nat := max lo (min v hi)

/-- One more, staying at `top` (R8, R139, R147). -/
def bump (top v : Nat) : Nat := min top (v + 1)

/-- A number in the two bytes of a note's value (Table 9-8). -/
def valueOf (n : Nat) : Ident := BitVec.ofNat 16 n

/-- A signed distance in the two bytes of a note's value (R41, R118). -/
def valueOfInt (n : Int) : Ident := BitVec.ofInt 16 n

/-- The length of a tote as a note gives it: as it is from 0 to 65,535, and 65,535 otherwise (R21). -/
def lengthValue (n : Int) : Ident := if 0 ≤ n ∧ n ≤ 65535 then BitVec.ofInt 16 n else BitVec.ofNat 16 65535

/-! ### Fields of a frame, high byte first (section 9.9) -/

/-- The byte at place `i` of a payload as a number, 0 where there is none. -/
def field1 (fs : List Byte) (i : Nat) : Nat := (fs.getD i 0).toNat

/-- The two bytes from place `i` as a number. -/
def field2 (fs : List Byte) (i : Nat) : Nat := field1 fs i * 256 + field1 fs (i + 1)

/-- The three bytes from place `i` as a number. -/
def field3 (fs : List Byte) (i : Nat) : Nat := field2 fs i * 256 + field1 fs (i + 2)

/-- A number as one byte. -/
def bytes1 (n : Nat) : List Byte := [BitVec.ofNat 8 n]

/-- A number as two bytes. -/
def bytes2 (n : Nat) : List Byte := [BitVec.ofNat 8 (n / 256), BitVec.ofNat 8 n]

/-- A number as three bytes. -/
def bytes3 (n : Nat) : List Byte := [BitVec.ofNat 8 (n / 65536), BitVec.ofNat 8 (n / 256), BitVec.ofNat 8 n]

/-- A mark or flag as one byte: 0 clear, 1 set. -/
def bytesBool (b : Bool) : List Byte := bytes1 (if b then 1 else 0)

end Sys2Proof.Machine
end

