-- ==== Sys2Proof/Machine/Operands.lean ====
section
/-! DEFINITION. The operand forms: ask codes (Table 9-9) with their payload lengths (Table 10-1), the TOTE payload and its
normalisation (R31, Table 9-6), the anonymous field set (R42), and the codes in which states and settings are carried. -/

namespace Sys2Proof.Machine

/-! ### Asks -/

/-- The asks of Table 9-9. -/
inductive AskCode where
  | readStatus | readIdentity | readTracking | readLane | readReservations
  | setWindow | writeEntries | continueEntries | readEntries | continueRead | swapPlan | copyPlan
  | setGeometry | setLine | setLane | setReports | clearFlags
  | clearFault | pauseLane | resumeLane | release | nodeReset
  deriving DecidableEq, Repr

/-- The code of an ask (Table 9-9). -/
def AskCode.code : AskCode → Byte
  | .readStatus => 0x01 | .readIdentity => 0x02 | .readTracking => 0x03 | .readLane => 0x04 | .readReservations => 0x05
  | .setWindow => 0x10 | .writeEntries => 0x11 | .continueEntries => 0x12 | .readEntries => 0x13 | .continueRead => 0x14
  | .swapPlan => 0x15 | .copyPlan => 0x16
  | .setGeometry => 0x20 | .setLine => 0x21 | .setLane => 0x22 | .setReports => 0x23 | .clearFlags => 0x24
  | .clearFault => 0x30 | .pauseLane => 0x31 | .resumeLane => 0x32 | .release => 0x33 | .nodeReset => 0x3F

/-- Every ask of Table 9-9, in its order. -/
def askCodes : List AskCode :=
  [.readStatus, .readIdentity, .readTracking, .readLane, .readReservations, .setWindow, .writeEntries, .continueEntries,
   .readEntries, .continueRead, .swapPlan, .copyPlan, .setGeometry, .setLine, .setLane, .setReports, .clearFlags,
   .clearFault, .pauseLane, .resumeLane, .release, .nodeReset]

/-- The ask that a code names, if Table 9-9 has it (R160). -/
def askOfByte (b : Byte) : Option AskCode := askCodes.find? fun c => c.code == b

/-- Whether Table 9-9 allows the ask to be broadcast (R150). -/
def AskCode.broadcast : AskCode → Bool
  | .swapPlan | .copyPlan | .setReports | .clearFlags | .pauseLane | .resumeLane | .nodeReset => true
  | .readStatus | .readIdentity | .readTracking | .readLane | .readReservations | .setWindow | .writeEntries
  | .continueEntries | .readEntries | .continueRead | .setGeometry | .setLine | .setLane | .clearFault | .release => false

/-- Whether a number of field bytes, the ask code not counted, is the one Table 10-1 gives for the ask. -/
def AskCode.lengthOk : AskCode → Nat → Bool
  | .readStatus, n | .readIdentity, n | .readReservations, n | .swapPlan, n | .copyPlan, n | .pauseLane, n
  | .resumeLane, n | .release, n | .nodeReset, n => n == 0
  | .readTracking, n | .readLane, n | .readEntries, n | .continueRead, n => n == 2
  | .setWindow, n => n == 5
  | .writeEntries, n | .continueEntries, n => 1 ≤ n && n ≤ 28
  | .setGeometry, n | .setLane, n => n == 10
  | .setLine, n => n == 26
  | .setReports, n | .clearFlags, n => n == 4
  | .clearFault, n => n == 1

/-- The ASK frame whose code a command names, with its payload (Table 9-7). -/
def askFrame (c : AskCode) (a : Ask) : LineFrame :=
  { target := a.target, source := a.source, tag := a.tag, payload := c.code :: a.fields }

/-- Result codes (Table 9-11). -/
inductive ResultCode where
  | ok | badLength | badValue | badState | unknownAsk | badFormat
  deriving DecidableEq, Repr

/-- The byte of a result (Table 9-11). -/
def ResultCode.code : ResultCode → Byte
  | .ok => 0 | .badLength => 1 | .badValue => 2 | .badState => 3 | .unknownAsk => 4 | .badFormat => 5

/-- What an answer says after its ask code: result, CLAMPED mark and answer fields (Table 9-7). -/
structure Reply where
  result  : ResultCode
  clamped : Bool
  fields  : List Byte
  deriving DecidableEq, Repr

/-- A refusal, which carries no answer fields (R160). -/
def refusal (r : ResultCode) : Reply := { result := r, clamped := false, fields := [] }

/-- Result OK with its mark and its fields (R160). -/
def okay (clamped : Bool) (fields : List Byte) : Reply := { result := .ok, clamped := clamped, fields := fields }

/-! ### Totes -/

/-- The anonymous field set (R42). -/
def anonymousFields : ToteFields :=
  { tag := 0, order := 0, dest := none, cls := 0, seq := 1, count := 1, refusals := 0, source := 0, adjusted := false }

/-- A lane record of the anonymous field set with the CARRIED mark clear (R118, R128). -/
def anonymousRecord : LaneRecord := ⟨anonymousFields, false⟩

/-- A destination as a payload carries it: 0 to 63, anything else NONE (R31). -/
def destOfByte (b : Byte) : Option (Fin 64) := if h : b.toNat < 64 then some ⟨b.toNat, h⟩ else none

/-- The byte of a destination, FFh for NONE (Table 9-6). -/
def destByte : Option (Fin 64) → Byte
  | some d => BitVec.ofNat 8 d.val
  | none => 0xFF

/-- A class as a payload carries it: above 3 it is taken as 0 (R31). -/
def classOfByte (b : Byte) : Fin 4 := if h : b.toNat < 4 then ⟨b.toNat, h⟩ else 0

/-- The nine TOTE fields of a TOTE payload of 9 bytes from a source, normalised, with the adjusted mark set when a
payload value was changed (R31, R32). -/
def normalise (source : Byte) (p : List Byte) : ToteFields :=
  let dest := destOfByte (p.getD 4 0)
  let cls := classOfByte (p.getD 5 0)
  let count := clamp 1 8 (field1 p 7)
  let seq := min (clamp 1 8 (field1 p 6)) count
  let refusals := min (field1 p 8) 15
  { tag := BitVec.ofNat 16 (field2 p 0), order := BitVec.ofNat 16 (field2 p 2), dest := dest, cls := cls, seq := seq,
    count := count, refusals := refusals, source := source,
    adjusted := destByte dest != p.getD 4 0 || cls.val != field1 p 5 || seq != field1 p 6 || count != field1 p 7
      || refusals != field1 p 8 }

/-- The TOTE payload of nine TOTE fields with a refusals value (Table 9-6, R82). -/
def totePayload (t : ToteFields) (refusals : Nat) : List Byte :=
  bytes2 t.tag.toNat ++ bytes2 t.order.toNat ++ [destByte t.dest] ++ bytes1 t.cls.val ++ bytes1 t.seq ++ bytes1 t.count
    ++ bytes1 refusals

/-- The nine TOTE fields as READ TRACKING and READ LANE give them, 11 bytes (R162). -/
def toteBytes (t : ToteFields) : List Byte :=
  bytes2 t.tag.toNat ++ bytes2 t.order.toNat ++ [destByte t.dest] ++ bytes1 t.cls.val ++ bytes1 t.seq ++ bytes1 t.count
    ++ bytes1 t.refusals ++ [t.source] ++ bytesBool t.adjusted

/-- A lane record as READ LANE gives it, 12 bytes (R163). -/
def laneRecordBytes (r : LaneRecord) : List Byte := toteBytes r.tote ++ bytesBool r.carried

/-! ### Codes of states and settings -/

/-- Diverter state in the node state summary (Table 9-8). -/
def DiverterState.code : DiverterState → Nat
  | .rest => 0 | .armed => 1 | .throwing => 2 | .holding => 3 | .returning => 4 | .fault => 5

/-- Lane state in the node state summary (Table 9-8). -/
def LaneState.code : LaneState → Nat
  | .running => 0 | .paused => 1 | .jammed => 2

/-- Encoder edge select (R13). -/
def EdgeSelect.code : EdgeSelect → Nat
  | .rising => 0 | .falling => 1 | .both => 2

/-- Gate length (R13). -/
def GateLength.code : GateLength → Nat
  | .ms32 => 0 | .ms64 => 1 | .ms128 => 2 | .ms256 => 3

/-- Gate length in milliseconds (Table 1-1). -/
def GateLength.ms : GateLength → Nat
  | .ms32 => 32 | .ms64 => 64 | .ms128 => 128 | .ms256 => 256

/-- Eye polarity (R26, R131). -/
def EyePolarity.code : EyePolarity → Nat
  | .blockedLow => 0 | .blockedHigh => 1

/-- Release mode (R131). -/
def ReleaseMode.code : ReleaseMode → Nat
  | .tote => 0 | .order => 1

/-- Fill order (R52). -/
def FillOrder.code : FillOrder → Nat
  | .destFirst => 0 | .classFirst => 1

/-- Bank (R161). -/
def Bank.code : Bank → Nat
  | .a => 0 | .b => 1

/-- Action of a cell (R56). -/
def Action.code : Action → Nat
  | .pass => 0 | .divert => 1 | .group => 2

/-- Reset cause (R161). -/
def ResetCause.code : ResetCause → Nat
  | .powerOn => 0 | .resetPin => 1 | .nodeReset => 2

/-- Belt state (R161). -/
def BeltState.code : BeltState → Nat
  | .stopped => 0 | .running => 1

/-- Link state (R161). -/
def LinkState.code : LinkState → Nat
  | .down => 0 | .up => 1

/-- The edge select that a code of SET LINE names; an unknown code names none (R13). -/
def edgeOfCode : Nat → Option EdgeSelect
  | 0 => some .rising | 1 => some .falling | 2 => some .both | _ => none

/-- The gate length that a code of SET LINE names (R13). -/
def gateOfCode : Nat → Option GateLength
  | 0 => some .ms32 | 1 => some .ms64 | 2 => some .ms128 | 3 => some .ms256 | _ => none

/-- The polarity that a code names (R26, R131). -/
def polarityOfCode : Nat → Option EyePolarity
  | 0 => some .blockedLow | 1 => some .blockedHigh | _ => none

/-- The release mode that a code names (R131). -/
def modeOfCode : Nat → Option ReleaseMode
  | 0 => some .tote | 1 => some .order | _ => none

/-- The fill order that a code names (R52). -/
def orderOfCode : Nat → Option FillOrder
  | 0 => some .destFirst | 1 => some .classFirst | _ => none

/-- The action that an entry value names; a value from 3 to 255 names none (R56). -/
def actionOfCode : Nat → Option Action
  | 0 => some .pass | 1 => some .divert | 2 => some .group | _ => none

/-- Whether an eye at a level reads blocked through a polarity (R15, R115). -/
def readsBlocked : EyePolarity → Bool → Bool
  | .blockedLow, level => !level
  | .blockedHigh, level => level

end Sys2Proof.Machine
end

