-- ==== Sys2Proof/Machine/Frames.lean ====
section
/-! DEFINITION. Frames on the ring line: the 16-bit check (R159), the bytes of a frame (Table 9-5), a byte as levels of the line and
the receiver that gathers bytes from them (R146), and the receive checks (R147). -/

namespace Sys2Proof.Machine

/-- The code of a frame kind (Table 9-5). -/
def kindByte : FrameKind → Byte
  | .number => 0x01 | .tote => 0x02 | .ask => 0x10 | .answer => 0x11 | .note => 0x12

/-- The kind a code names, if it is one of the five (R147). -/
def kindOfByte (b : Byte) : Option FrameKind :=
  if b = 0x01 then some .number else if b = 0x02 then some .tote else if b = 0x10 then some .ask
  else if b = 0x11 then some .answer else if b = 0x12 then some .note else none

/-- One bit of the check: the register is shifted one place toward its most significant end, and combined with 1021h
when the bit shifted out differs from the data bit (R159). -/
def crcBit (reg : BitVec 16) (data : Bool) : BitVec 16 :=
  if reg.msb != data then (reg <<< 1) ^^^ 0x1021#16 else reg <<< 1

/-- One byte of the check, its most significant bit first (R159). -/
def crcByte (reg : BitVec 16) (b : Byte) : BitVec 16 :=
  [7, 6, 5, 4, 3, 2, 1, 0].foldl (fun r i => crcBit r (b.getLsbD i)) reg

/-- The check of a run of bytes, from FFFFh, with no final inversion (R159). -/
def crc (bs : List Byte) : BitVec 16 := bs.foldl crcByte 0xFFFF#16

/-- The bytes that the check covers: kind, target, source, tag, length and payload (R147, R159). -/
def checkedBytes (f : Frame) : List Byte :=
  [kindByte f.kind, f.target, f.source, f.tag] ++ bytes1 f.payload.length ++ f.payload

/-- A check as two bytes, high byte first (R159). -/
def checkBytes (c : BitVec 16) : List Byte := bytes2 c.toNat

/-- The bytes of a frame on the line: sync, header, payload and check (Table 9-5). -/
def frameBytes (f : Frame) : List Byte :=
  BitVec.ofNat 8 Config.syncByte :: (checkedBytes f ++ checkBytes (crc (checkedBytes f)))

/-! ### Bytes on the line -/

/-- A byte on the line: a start bit at low level, eight data bits with the least significant bit first, a stop bit at high level
(R146). -/
def byteLevels (b : Byte) : List Bool := false :: ([0, 1, 2, 3, 4, 5, 6, 7].map fun i => b.getLsbD i) ++ [true]

/-- Bytes on the line with no gap between them (R146). -/
def lineLevels (bs : List Byte) : List Bool := bs.flatMap byteLevels

/-- A byte of eight data bits in the order in which they came, the least significant first (R146). -/
def byteOfLevels (data : List Bool) : Byte := BitVec.ofNat 8 (data.foldr (fun bit n => 2 * n + bit.toNat) 0)

/-- What the receiver has gathered of a frame: its bytes, and whether one of them had a low stop bit (R146). -/
structure Gathered where
  bytes        : List Byte
  framingError : Bool
  deriving DecidableEq, Repr

/-- The receiver within a frame (R146): what it has gathered, the data bits of a byte whose start bit it has seen, the bit times of
idle so far, whether the frame is spoiled, and whether the idle of 16 bit times has come. -/
structure Receiver where
  got     : Gathered
  data    : Option (List Bool)
  idle    : Nat
  spoiled : Bool
  ended   : Bool
  deriving DecidableEq, Repr

/-- The receiver at the start of a frame. -/
def freshReceiver : Receiver := ⟨⟨[], false⟩, none, 0, false, false⟩

/-- One bit time between bytes, or in a spoiled frame: 16 of them at high level in a row are the idle that ends the frame (R146). -/
def idleBit (level : Bool) (r : Receiver) : Receiver :=
  if level then { r with idle := r.idle + 1, ended := decide (Config.idleBits ≤ r.idle + 1) } else { r with idle := 0 }

/-- The stop bit of a byte: high, the byte is gathered, and the 41st spoils the frame; low, a framing error (R146). -/
def stopBit (level : Bool) (data : List Bool) (r : Receiver) : Receiver :=
  if level then
    let bytes := r.got.bytes ++ [byteOfLevels data]
    { r with
      got := { r.got with bytes := bytes }, data := none, idle := 0, spoiled := decide (Config.spoiledLength ≤ bytes.length) }
  else { r with got := { r.got with framingError := true }, data := none, idle := 0, spoiled := true }

/-- The receiver takes the level of one bit time (R146). -/
def takeLevel (r : Receiver) (level : Bool) : Receiver :=
  if r.ended then r
  else if r.spoiled then idleBit level r
  else
    match r.data with
    | none => if level then idleBit level r else { r with data := some [], idle := 0 }
    | some data => if data.length < 8 then { r with data := some (data ++ [level]) } else stopBit level data r

/-- What the receiver gathers from the first start bit on, with the idle after the levels, which gives a byte cut short its last bits
(R146). -/
def gather (raw : RawFrame) : Gathered :=
  ((raw.levels.dropWhile (fun level => level) ++ List.replicate (Config.idleBits + 9) true).foldl takeLevel freshReceiver).got

/-- Whether levels hold a start bit, without which no frame has come (R146). -/
def hasStart (raw : RawFrame) : Bool := raw.levels.contains false

/-! ### The receive checks -/

/-- The receive checks (R147): the frame that the gathered bytes hold, or none when a check fails. The bytes of a frame that
reached 41 bytes without an idle are more than 40 (R146). -/
def receiveCheck (raw : Gathered) : Option Frame :=
  let bs := raw.bytes
  let n := field1 bs 5
  let covered := (bs.drop 1).take (bs.length - 3)
  if !raw.framingError && bs.length ≤ 40 && 8 ≤ bs.length && field1 bs 0 == Config.syncByte
      && n ≤ Config.maxPayload && n + 8 == bs.length && bs.drop (bs.length - 2) == checkBytes (crc covered) then
    (kindOfByte (bs.getD 1 0)).map fun k =>
      { kind := k, target := bs.getD 2 0, source := bs.getD 3 0, tag := bs.getD 4 0,
        payload := (bs.drop 6).take n }
  else none

/-- The frame of a kind with the header and payload of a command. -/
def ofKind (k : FrameKind) (f : LineFrame) : Frame :=
  { kind := k, target := f.target, source := f.source, tag := f.tag, payload := f.payload }

end Sys2Proof.Machine
end

