-- ==== Sys2Proof/Machine/Queues.lean ====
section
/-! DEFINITION. The Line Port's three queues, its transmitter and its arbiter (R151 to R155), as operations on the
port alone. -/

namespace Sys2Proof.Machine

/-- The byte of a ring position, 0 while unnumbered (Table 9-5). -/
def positionByte (l : LinePort) : Byte := BitVec.ofNat 8 l.position.val

/-- The arbiter's choice when the transmitter is free (R154, R155): the oldest hand-off; else the oldest frame to be
forwarded, unless the credit count is 3 and local frames wait; else the oldest local frame. -/
def pick (l : LinePort) : LinePort :=
  match l.handOff with
  | f :: rest => { l with handOff := rest, sending := some f }
  | [] =>
    match l.forward, l.localQueue with
    | f :: rest, [] => { l with forward := rest, sending := some f }
    | f :: rest, g :: others =>
      if l.credit < Config.creditLimit then
        { l with forward := rest, sending := some f, credit := l.credit + 1 }
      else { l with localQueue := others, sending := some g, credit := 0 }
    | [], g :: others => { l with localQueue := others, sending := some g, credit := 0 }
    | [], [] => l

/-- A transmitter that is free takes a frame as soon as one waits (R154). -/
def arbitrate (l : LinePort) : LinePort := if l.sending.isNone then pick l else l

/-- Whether the local queue holds 8 frames (R153). -/
def localFull (l : LinePort) : Bool := decide (Config.localDepth ≤ l.localQueue.length)

/-- An answer or a note joins the local queue, or is dropped when the queue holds 8 (R153). -/
def localJoin (f : Frame) (l : LinePort) : LinePort :=
  if localFull l then l else arbitrate { l with localQueue := l.localQueue ++ [f] }

/-- Whether the forward queue holds 4 frames (R151). -/
def forwardFull (l : LinePort) : Bool := decide (Config.forwardDepth ≤ l.forward.length)

/-- A frame joins the tail of the forward queue (R151). -/
def forwardJoin (f : Frame) (l : LinePort) : LinePort := arbitrate { l with forward := l.forward ++ [f] }

/-- Whether the hand-off queue holds 4 frames (R152). -/
def handOffFull (l : LinePort) : Bool := decide (Config.handOffDepth ≤ l.handOff.length)

/-- A hand-off joins the tail of the hand-off queue (R152). -/
def handOffJoin (f : Frame) (l : LinePort) : LinePort := arbitrate { l with handOff := l.handOff ++ [f] }

/-- One more line error, saturating (R147). -/
def countError (l : LinePort) : LinePort := { l with errors := bump Config.maxErrors l.errors }

end Sys2Proof.Machine
end

