-- ==== Sys2Proof/Machine/Flags.lean ====
section
/-! DEFINITION. Events, flags and notes (section 10.4): the note kinds (Table 9-10), their flags and enables (R168), the
NOTE frame (Table 9-8) and the raising of an event (R167). -/

namespace Sys2Proof.Machine

/-- The 21 note kinds (Table 9-10). -/
inductive NoteKind where
  | unknownTote | missedTote | trackFull | lengthMismatch | eyeBlocked | passedLate | crowded
  | refused | entered | entryMissed | strayEntry | laneJam | released | orderReady
  | releaseRefused | reservationLapsed | diverterFault | beltStopped | beltRunning | lineOverrun | linkChange
  deriving DecidableEq, Repr

/-- The code of a note kind (Table 9-10). -/
def NoteKind.code : NoteKind → Nat
  | .unknownTote => 1 | .missedTote => 2 | .trackFull => 3 | .lengthMismatch => 4 | .eyeBlocked => 5
  | .passedLate => 6 | .crowded => 7 | .refused => 8 | .entered => 9 | .entryMissed => 10 | .strayEntry => 11
  | .laneJam => 12 | .released => 13 | .orderReady => 14 | .releaseRefused => 15 | .reservationLapsed => 16
  | .diverterFault => 17 | .beltStopped => 18 | .beltRunning => 19 | .lineOverrun => 20 | .linkChange => 21

/-- The set that holds one kind: kind k in bit k - 1 (R168). -/
def NoteKind.bit (k : NoteKind) : KindSet := 1#21 <<< (k.code - 1)

/-- Whether a set of kinds holds a kind (R168). -/
def inSet (k : NoteKind) (set : KindSet) : Bool := set.getLsbD (k.code - 1)

/-- A set of kinds as three bytes, bits 21 to 23 clear (R168). -/
def setBytes (set : KindSet) : List Byte := bytes3 set.toNat

/-- What a raising rule gives its note: tote tag, order, detail, value and position at event (R167). -/
structure NoteBody where
  tag    : Ident
  order  : Ident
  detail : Nat
  value  : Ident
  pos    : Pos
  deriving DecidableEq, Repr

/-- The node state summary: diverter state in bits 7 to 4, lane state in bits 3 to 0 (Table 9-8). -/
def summary (s : State) : Nat := s.diverter.state.code * 16 + s.lane.state.code

/-- The NOTE frame of an event, built with the state of the moment (Table 9-8, R153). -/
def noteFrame (k : NoteKind) (n : NoteBody) (s : State) : Frame :=
  { kind := .note, target := 0, source := positionByte s.line, tag := 0,
    payload := bytes1 k.code ++ bytes2 n.tag.toNat ++ bytes2 n.order.toNat ++ bytes1 n.detail ++ bytes2 n.value.toNat
      ++ bytes3 n.pos.toNat ++ bytes1 (summary s) }

/-- Whether an event of a kind becomes a note: the global enable and the kind's enable are both on (R167). -/
def noted (k : NoteKind) (r : Report) : Bool := r.globalEnable && inSet k r.enables

/-- A block raises an event (R167): the flag of its kind is set and, when both enables are on, its note joins the local
queue, or is dropped with REPORTS_LOST when the queue is full (R153). -/
def raise (k : NoteKind) (n : NoteBody) (s : State) : State :=
  { s with
    report := { s.report with
      flags := s.report.flags ||| k.bit
      lost := s.report.lost || (noted k s.report && localFull s.line) }
    line := if noted k s.report then localJoin (noteFrame k n s) s.line else s.line }

/-- The events of one block's event, raised in their order (R167). -/
def raiseAll (k : NoteKind) (ns : List NoteBody) (s : State) : State := ns.foldl (fun s n => raise k n s) s

/-- An answer joins the local queue, or is dropped with REPORTS_LOST (R153). -/
def queueAnswer (f : Frame) (s : State) : State :=
  { s with
    report := { s.report with lost := s.report.lost || localFull s.line }
    line := localJoin f s.line }

/-- The ANSWER frame of an ask: its tag, its code, the result, the marks and the answer fields (Table 9-7, R160). -/
def answerFrame (askTag code : Byte) (r : Reply) (s : State) : Frame :=
  { kind := .answer, target := 0, source := positionByte s.line, tag := askTag,
    payload := [code, r.result.code] ++ bytesBool r.clamped ++ r.fields }

/-- A frame to be forwarded joins the forward queue, or is discarded with LINE_OVERRUN detail FORWARD when the queue
holds 4 frames (R151). -/
def forwardFrame (f : Frame) (s : State) : State :=
  if forwardFull s.line then
    raise .lineOverrun ⟨0, 0, 0, valueOf (kindByte f.kind).toNat, s.belt.pos⟩ s
  else { s with line := forwardJoin f s.line }

/-- A hand-off joins the hand-off queue, or is dropped with LINE_OVERRUN detail HANDOFF when the queue holds 4 frames; the
note carries the tote tag and order of the dropped hand-off and the lead position (R83, R152). -/
def offerHandOff (f : Frame) (tag order : Ident) (lead : Pos) (s : State) : State :=
  if handOffFull s.line then raise .lineOverrun ⟨tag, order, 1, 0, lead⟩ s
  else { s with line := handOffJoin f s.line }

end Sys2Proof.Machine
end

