-- ==== Sys2Proof/Machine/Zones.lean ====
section
/-! DEFINITION. The zones as they stand (R114, R135), the room of the lane (R70), the READY lamp (R142) and the trim of
reservations (R88): what the Admission Unit, the Lane Controller and the Counter Interface share. -/

namespace Sys2Proof.Machine

/-! ### Zones -/

/-- Zone k, for k from 1. -/
def zone (l : Lane) (k : Nat) : Zone := l.zones.getD (k - 1) emptyZone

/-- The lane with zone k replaced. -/
def putZone (k : Nat) (z : Zone) (l : Lane) : Lane := { l with zones := l.zones.setIfInBounds (k - 1) z }

/-- Whether the eye of zone k reads blocked through the lane eye polarity (R115). -/
def zoneBlocked (s : State) (k : Nat) : Bool := readsBlocked s.lane.polarity (s.pins.zeye.getD (k - 1) true)

/-- A running lane timer that has run its time. -/
def timerOut (t : Option Timer) : Bool :=
  match t with
  | some t => decide (t.limit ≤ t.elapsed)
  | none => false

/-- How many of the zones 1 to k hold a record. -/
def heldUpTo (l : Lane) : Nat → Nat
  | 0 => 0
  | k + 1 => heldUpTo l k + if (zone l (k + 1)).record.isSome then 1 else 0

/-- The number of zones that hold a record (R70). -/
def held (l : Lane) : Nat := heldUpTo l l.zoneCount

/-- The record in the highest-numbered of the zones 1 to k that holds one. -/
def frontUpTo (l : Lane) : Nat → Option LaneRecord
  | 0 => none
  | k + 1 =>
    match (zone l (k + 1)).record with
    | some r => some r
    | none => frontUpTo l k

/-- The front record (R135). -/
def frontRecord (l : Lane) : Option LaneRecord := frontUpTo l l.zoneCount

/-- A multi-tote record: an order, a count from 2 to 8, and the CARRIED mark clear (R135). -/
def multiTote (r : LaneRecord) : Bool :=
  r.tote.order != 0 && 2 ≤ r.tote.count && r.tote.count ≤ 8 && !r.carried

/-- Whether a record is a multi-tote record of an order (R135). -/
def multiToteOf (order : Ident) (r : LaneRecord) : Bool := multiTote r && r.tote.order == order

/-- Whether one of the zones 1 to k holds a record with a property. -/
def anyRecordUpTo (l : Lane) (p : LaneRecord → Bool) : Nat → Bool
  | 0 => false
  | k + 1 => (match (zone l (k + 1)).record with | some r => p r | none => false) || anyRecordUpTo l p k

/-- Whether some zone holds a record with a property. -/
def anyRecord (l : Lane) (p : LaneRecord → Bool) : Bool := anyRecordUpTo l p l.zoneCount

/-- Whether the zones hold every sequence from 1 to n of an order in multi-tote records (R135). -/
def sequencesUpTo (l : Lane) (order : Ident) : Nat → Bool
  | 0 => true
  | n + 1 => anyRecord l (fun r => multiToteOf order r && r.tote.seq == n + 1) && sequencesUpTo l order n

/-- Whether the front order is complete (R135). -/
def frontComplete (l : Lane) : Bool :=
  match frontRecord l with
  | none => false
  | some r => if multiTote r then sequencesUpTo l r.tote.order r.tote.count else true

/-! ### Room -/

/-- The sum of the reserved zones of all entries (R70). -/
def reserved (a : Admission) : Nat := (a.table.map (·.zones)).sum

/-- held + inbound + reserved (R88). -/
def roomSum (s : State) : Nat := held s.lane + s.lane.inbound.length + reserved s.admission

/-- unreserved = Z - held - inbound - reserved, a signed number (R70). -/
def unreserved (s : State) : Int := (s.lane.zoneCount : Int) - (roomSum s : Int)

/-- Entry ready: zone 1 is EMPTY or FILLING (R70). -/
def entryReady (l : Lane) : Bool :=
  match (zone l 1).state with
  | .empty | .filling => true
  | .held | .passing => false

/-! ### The trim -/

/-- The entries, newest first, with a number of zones taken from the newest on; and the entries so removed, in the order of
their removal, each with the count it held (R88). -/
def trimEntries : Nat → List Reservation → List Reservation × List Reservation
  | _, [] => ([], [])
  | n, r :: rs =>
    if n = 0 then (r :: rs, [])
    else if n < r.zones then ({ r with zones := r.zones - n } :: rs, [])
    else
      let t := trimEntries (n - r.zones) rs
      (t.1, r :: t.2)

/-- The RESERVATION_LAPSED note of an entry, detail 0 EXPIRED or 1 TRIMMED (R87, R88). -/
def lapsedNote (now : Pos) (detail : Nat) (r : Reservation) : NoteBody :=
  ⟨0, r.order, detail, valueOf r.zones, now⟩

/-- While held + inbound + reserved exceeds Z, the newest entry is reduced, and removed when it reaches 0 (R88). -/
def trim (s : State) : State :=
  let t := trimEntries (roomSum s - s.lane.zoneCount) s.admission.table.reverse
  raiseAll .reservationLapsed (t.2.map (lapsedNote s.belt.pos 1))
    { s with admission := { s.admission with table := t.1.reverse } }

/-! ### The READY lamp -/

/-- Whether the READY lamp is to be lit: the lane RUNNING, zone Z HELD and the front order complete (R142). -/
def readyHolds (l : Lane) : Bool :=
  l.state == .running && (zone l l.zoneCount).state == .held && frontComplete l

/-- The ORDER_READY note of a front record (R142). -/
def readyNote (now : Pos) (r : LaneRecord) : NoteBody :=
  ⟨r.tote.tag, r.tote.order, if multiTote r then 0 else 1, valueOf r.tote.count, now⟩

/-- The lamp is evaluated anew; on a change from dark to lit ORDER_READY is raised (R142). -/
def evalReady (s : State) : State :=
  let t := { s with counter := { s.counter with readyLit := readyHolds s.lane } }
  if readyHolds s.lane && !s.counter.readyLit then
    match frontRecord s.lane with
    | some r => raise .orderReady (readyNote s.belt.pos r) t
    | none => t
  else t

end Sys2Proof.Machine
end

