-- ==== Sys2Proof/Machine/Release.lean ====
section
/-! DEFINITION. The Counter Interface and the discharge at zone Z (chapter 8, R126): release requests (R137, R138), the course
of a release (R139, R140), its end at a pause or a jam (R141). -/

namespace Sys2Proof.Machine

/-- The reasons for which a release request is refused (R137). -/
inductive RefuseReason where
  | paused | jammed | empty | incomplete
  deriving DecidableEq, Repr

/-- The detail of RELEASE_REFUSED and the reason of a RELEASE answer (R137, R165). -/
def RefuseReason.code : RefuseReason → Nat
  | .paused => 0 | .jammed => 1 | .empty => 2 | .incomplete => 3

/-- The tests of a release request in IDLE, in their order; the first that applies refuses it (R137). -/
def requestRefusal (l : Lane) : Option RefuseReason :=
  match l.state with
  | .jammed => some .jammed
  | .paused => some .paused
  | .running =>
    if (zone l l.zoneCount).state ≠ .held then some .empty
    else if l.mode = .order ∧ frontComplete l = false then some .incomplete
    else none

/-- The tote tag and order of the front record, 0 and 0 when there is none (R137). -/
def frontTags (l : Lane) : Ident × Ident :=
  match frontRecord l with
  | some r => (r.tote.tag, r.tote.order)
  | none => (0, 0)

/-- A refused request raises RELEASE_REFUSED and lights the WAIT lamp; the source is 0 the button, 1 the ask, 2 a pending
press (R137, R143). -/
def refuseRequest (reason : RefuseReason) (source : Nat) (s : State) : State :=
  raise .releaseRefused
    ⟨(frontTags s.lane).1, (frontTags s.lane).2, reason.code, valueOf source, s.belt.pos⟩
    { s with counter := { s.counter with waitTimer := some 0 } }

/-- The Counter Interface with no release: IDLE, no group order, count 0 (R140). -/
def idleCounter (c : Counter) : Counter := { c with release := .idle, group := none, count := 0 }

/-- The end of a release by R141: IDLE, with the pending press cleared and no request taken from it. -/
def quietEnd (c : Counter) : Counter := { idleCounter c with pressWaits := false }

/-- A release ends after a discharge: in PAUSED the pending press is cleared unheard (R141); otherwise it is taken anew
(R140). Zone Z has just become EMPTY, so that request is always refused. -/
def endAfterDischarge (s : State) : State :=
  let t := { s with counter := quietEnd s.counter }
  if s.counter.pressWaits ∧ s.lane.state ≠ .paused then
    match requestRefusal s.lane with
    | some r => refuseRequest r 2 t
    | none => t
  else t

/-- Whether a release goes on after a discharge: a group order, the lane RUNNING, and a multi-tote record of the group
order at the front (R139). -/
def releaseGoesOn (s : State) : Bool :=
  match s.counter.group, frontRecord s.lane with
  | some g, some r => s.lane.state == .running && multiToteOf g r
  | _, _ => false

/-- The detail of RELEASED when the release ends: 2 PARTIAL when a zone still holds a multi-tote record of the group order,
0 LAST otherwise (R139). -/
def endDetail (s : State) : Nat :=
  match s.counter.group with
  | some g => if anyRecord s.lane (multiToteOf g) then 2 else 0
  | none => 0

/-- The Counter Interface takes a discharge completion with the removed record (R139). -/
def completionTaken (r : LaneRecord) (s : State) : State :=
  let n := bump 255 s.counter.count
  let note := fun detail => (⟨r.tote.tag, r.tote.order, detail, valueOf n, s.belt.pos⟩ : NoteBody)
  if releaseGoesOn s then
    raise .released (note 1) { s with counter := { s.counter with count := n, release := .waiting } }
  else
    endAfterDischarge (raise .released (note (endDetail s)) { s with counter := { s.counter with count := n } })

/-- The lane after a completion: zone Z is EMPTY and the discharge timer is stopped, before it runs out if the completion comes
together with its timeout (R126). That timeout may still be taken after it (R141; log entry 38). -/
def dischargedLane (l : Lane) : Lane :=
  { putZone l.zoneCount emptyZone l with discharge := none, lateTimeout := l.lateTimeout || timerOut l.discharge }

/-- A discharge completes: the record leaves the lane, zone Z becomes EMPTY and the timer stops (R126). -/
def completeDischarge (s : State) : State :=
  let z := s.lane.zoneCount
  let t := evalReady { s with lane := dischargedLane s.lane }
  match (zone s.lane z).record with
  | some r => completionTaken r t
  | none => t

/-- A discharge request taken by the Lane Controller: zone Z is PASSING and the discharge timer runs; with the eye of zone
Z already clear the discharge completes at once (R126). -/
def startDischarge (s : State) : State :=
  let z := s.lane.zoneCount
  let passing : Zone := { zone s.lane z with state := .passing }
  let lane : Lane := { putZone z passing s.lane with discharge := some ⟨0, s.lane.dischargeLimit * 10⟩ }
  let t := evalReady { s with lane := lane }
  if zoneBlocked t z then t else completeDischarge t

/-- The group order of a release that starts: in ORDER mode the order of a multi-tote front record (R137). -/
def groupOf (l : Lane) : Option Ident :=
  match l.mode, frontRecord l with
  | .order, some r => if multiTote r then some r.tote.order else none
  | _, _ => none

/-- A release request in IDLE (R137). -/
def idleRequest (source : Nat) (s : State) : State :=
  match requestRefusal s.lane with
  | some r => refuseRequest r source s
  | none =>
    startDischarge { s with counter := { s.counter with
      release := .discharging, mode := s.lane.mode, count := 0, group := groupOf s.lane } }

/-- A release request (R137, R138). -/
def releaseRequest (source : Nat) (s : State) : State :=
  match s.counter.release with
  | .idle => idleRequest source s
  | .discharging | .waiting => { s with counter := { s.counter with pressWaits := true } }

/-- A release ends while WAITING at a record that is not of its group: a pending press is taken anew (R140). -/
def endInWaiting (s : State) : State :=
  let t := { s with counter := quietEnd s.counter }
  if s.counter.pressWaits then idleRequest 2 t else t

/-- In WAITING, zone Z has become HELD: a multi-tote record of the group order is discharged, and any other record, or a
lane that refuses the discharge request, ends the release (R140). -/
def zoneZHeld (s : State) : State :=
  if s.counter.release = .waiting then
    match s.counter.group, (zone s.lane s.lane.zoneCount).record with
    | some g, some r =>
      if multiToteOf g r ∧ s.lane.state = .running then
        startDischarge { s with counter := { s.counter with release := .discharging } }
      else endInWaiting s
    | _, _ => endInWaiting s
  else s

/-- A pause ends a release that is WAITING (R141). -/
def pauseTaken (c : Counter) : Counter := if c.release = .waiting then quietEnd c else c

end Sys2Proof.Machine
end

