-- ==== Sys2Proof/Machine/Zoning.lean ====
section
/-! DEFINITION. The Lane Controller (chapter 7): entries at zone 1 (R117 to R119), transfers (R122, R123), jams (R127), the
rescan (R128) and the settling of the lane after an event. -/

namespace Sys2Proof.Machine

/-! ### Jams -/

/-- Every transfer timer and the discharge timer stopped (R127, R128). -/
def stopTimers (l : Lane) : Lane :=
  { l with zones := l.zones.map fun z => { z with timer := none }, discharge := none, lateTimeout := false }

/-- The lane enters JAMMED (R127): the timers stop, the Counter Interface ends any release under way (R141), and LANE_JAM
is raised with a detail, the tote concerned and a zone number. -/
def jam (detail : Nat) (record : Option LaneRecord) (k : Nat) (s : State) : State :=
  let t := evalReady { s with
    lane := { stopTimers s.lane with state := .jammed }
    counter := quietEnd s.counter }
  match record with
  | some r => raise .laneJam ⟨r.tote.tag, r.tote.order, detail, valueOf k, s.belt.pos⟩ t
  | none => raise .laneJam ⟨0, 0, detail, valueOf k, s.belt.pos⟩ t

/-! ### Entries -/

/-- An entry at zone 1 (R118): the oldest inbound record passes into zone 1 with ENTERED, or an anonymous record with
STRAY_ENTRY and a trim. R167 leaves the order of ENTERED, or of STRAY_ENTRY with its trim, and of an ORDER_READY of the same entry
open; ENTERED or STRAY_ENTRY comes first: DESIGN CHOICE (log entry 39). -/
def enterZone1 (s : State) : State :=
  match s.lane.inbound with
  | r :: rest =>
    evalReady (raise .entered
      ⟨r.record.tote.tag, r.record.tote.order, if r.record.carried then 1 else 0,
        valueOfInt (signedDist s.belt.pos r.deadline), s.belt.pos⟩
      { s with lane := { putZone 1 ⟨.held, some r.record, false, none⟩ s.lane with inbound := rest } })
  | [] =>
    evalReady (trim (raise .strayEntry ⟨0, 0, 0, 0, s.belt.pos⟩
      { s with lane := putZone 1 ⟨.held, some anonymousRecord, false, none⟩ s.lane }))

/-! ### Transfers -/

/-- Zone k of a transfer after one of its parts: EMPTY when the record has moved and the mark is set (R123). -/
def transferPart (z : Zone) : Zone := if z.record.isNone && z.partEnded then emptyZone else z

/-- The tote of zone k - 1 has reached the eye of the FILLING zone k: the record moves and zone k is HELD (R123). -/
def arrive (k : Nat) (s : State) : State :=
  match (zone s.lane (k - 1)).record with
  | none => s
  | some r =>
    let behind := transferPart { zone s.lane (k - 1) with record := none }
    let t := evalReady { s with lane := putZone k ⟨.held, some r, false, none⟩ (putZone (k - 1) behind s.lane) }
    if k = s.lane.zoneCount then zoneZHeld t else t

/-- A transfer from zone k starts (R122); when the eye of zone k + 1 is already blocked the record moves at once (R123). -/
def startTransfer (k : Nat) (s : State) : State :=
  let passing : Zone :=
    { zone s.lane k with
      state := .passing, partEnded := !zoneBlocked s k, timer := some ⟨0, s.lane.transferLimit * 10⟩ }
  let filling : Zone := { zone s.lane (k + 1) with state := .filling }
  let t := evalReady { s with lane := putZone (k + 1) filling (putZone k passing s.lane) }
  if zoneBlocked s (k + 1) then arrive (k + 1) t else t

/-! ### Settling the lane -/

/-- Whether a transfer from zone k is to start (R122). -/
def transferDue (l : Lane) (k : Nat) : Bool :=
  l.state != .jammed && k < l.zoneCount && (zone l k).state == .held && (zone l (k + 1)).state == .empty

/-- The highest of the zones 1 to k from which a transfer is to start. -/
def dueZone (l : Lane) : Nat → Option Nat
  | 0 => none
  | k + 1 => if transferDue l (k + 1) then some (k + 1) else dueZone l k

/-- Zone 1 becomes FILLING for a waiting inbound record, and takes an entry at once when its eye is already blocked and
the lane is not JAMMED (R117). -/
def zone1Fills (s : State) : State :=
  let t := evalReady { s with lane := putZone 1 { zone s.lane 1 with state := .filling } s.lane }
  if zoneBlocked s 1 && s.lane.state != .jammed then enterZone1 t else t

/-- One thing that the lane does of itself, if there is one: zone 1 follows the inbound list (R117), or a transfer starts
(R122). Where both apply zone 1 comes first, and transfers start from the highest zone: DESIGN CHOICE (log entry 39). -/
def laneRule (s : State) : Option State :=
  match (zone s.lane 1).state, s.lane.inbound with
  | .empty, _ :: _ => some (zone1Fills s)
  | .filling, [] => some (evalReady { s with lane := putZone 1 { zone s.lane 1 with state := .empty } s.lane })
  | _, _ => (dueZone s.lane s.lane.zoneCount).map fun k => startTransfer k s

/-- The lane's rules taken until none applies, at most `fuel` of them. -/
def laneRules : Nat → State → State
  | 0, s => s
  | fuel + 1, s =>
    match laneRule s with
    | some t => laneRules fuel t
    | none => s

/-- The lane after an event, with every rule of R117 and R122 taken. Each rule moves a record on or takes one from the
inbound list, so 128 of them are more than eight zones and four inbound records can call for. -/
def settleLane (s : State) : State := laneRules 128 s

/-! ### The rescan -/

/-- A zone as the rescan sets it from its eye (R128). -/
def rescanZone (blocked : Bool) (z : Zone) : Zone :=
  if blocked then ⟨.held, some (z.record.getD anonymousRecord), false, none⟩ else emptyZone

/-- The zones 1 to Z set from their eyes, every timer stopped (R128). -/
def rescanZones (s : State) : Lane :=
  { s.lane with
    zones := Vector.ofFn fun i : Fin 8 =>
      if i.val < s.lane.zoneCount then rescanZone (zoneBlocked s (i.val + 1)) (zone s.lane (i.val + 1)) else emptyZone
    discharge := none
    lateTimeout := false }

/-- The ENTRY_MISSED note of an inbound record, detail 0 DEADLINE or 1 RESCAN (R120, R128). -/
def missedEntryNote (now : Pos) (detail : Nat) (r : InboundRecord) : NoteBody :=
  ⟨r.record.tote.tag, r.record.tote.order, detail, if r.record.carried then 1 else 0, now⟩

/-- With the reservation table empty, the oldest inbound records are removed with ENTRY_MISSED detail RESCAN until
held + inbound is at most Z (R128). -/
def dropExcess (s : State) : State :=
  if s.admission.table.isEmpty then
    let n := held s.lane + s.lane.inbound.length - s.lane.zoneCount
    raiseAll .entryMissed ((s.lane.inbound.take n).map (missedEntryNote s.belt.pos 1))
      { s with lane := { s.lane with inbound := s.lane.inbound.drop n } }
  else s

/-- The rescan up to the trim and the removals, which belong to it (R128). -/
def rescan (s : State) : State := dropExcess (trim { s with lane := rescanZones s })

/-- The rescan of a CLEAR FAULT: the lane is set RUNNING and advances at once (R128, R129). An ORDER_READY comes after the notes of the
trim and the removals: DESIGN CHOICE (log entry 39). -/
def rescanToRunning (s : State) : State :=
  let t := rescan s
  settleLane (evalReady { t with lane := { t.lane with state := .running } })

/-- The rescan that keeps the lane state; a release that is WAITING takes a zone Z found HELD (R128, R132, R140). An ORDER_READY comes
after the notes of the trim and the removals: DESIGN CHOICE (log entry 39). -/
def rescanInPlace (s : State) : State :=
  let t := evalReady (rescan s)
  settleLane (if (zone t.lane t.lane.zoneCount).state = .held then zoneZHeld t else t)

/-! ### Zone eye changes -/

/-- A change to blocked at zone 1 (R118, R119). -/
def zone1Blocked (s : State) : State :=
  match (zone s.lane 1).state with
  | .empty | .filling => enterZone1 s
  | .held | .passing => jam 0 (zone s.lane 1).record 1 s

/-- A change to blocked at zone k above 1 (R123, R125). -/
def zoneKBlocked (k : Nat) (s : State) : State :=
  match (zone s.lane k).state with
  | .empty => jam 3 none k s
  | .filling => arrive k s
  | .held => s
  | .passing =>
    if k < s.lane.zoneCount then
      { s with lane := putZone k { zone s.lane k with partEnded := false } s.lane }
    else s

/-- A change to clear at zone k (R123, R125, R126). -/
def zoneCleared (k : Nat) (s : State) : State :=
  match (zone s.lane k).state with
  | .empty | .filling | .held => s
  | .passing =>
    if k < s.lane.zoneCount then
      evalReady { s with lane := putZone k (transferPart { zone s.lane k with partEnded := true }) s.lane }
    else completeDischarge s

/-- Whether a zone expects no tote on its eye yet: EMPTY or FILLING. -/
def awaitsTote (z : Zone) : Bool :=
  match z.state with
  | .empty | .filling => true
  | .held | .passing => false

/-- ZEYEk takes a level. -/
def zeyeTakes (k : Nat) (level : Bool) (s : State) : State :=
  { s with pins := { s.pins with zeye := s.pins.zeye.setIfInBounds (k - 1) level } }

/-- The lane enters JAMMED at a discharge timeout, with the record of zone Z if it holds one (R126). -/
def dischargeJams (s : State) : State :=
  settleLane (jam 2 (zone s.lane s.lane.zoneCount).record s.lane.zoneCount s)

/-- An eye change at zone k is acted on for k from 1 to Z, while the lane is RUNNING or PAUSED (R115). -/
def zoneChanged (k : Nat) (blocked : Bool) (s : State) : State :=
  if s.lane.zoneCount < k ∨ s.lane.state = .jammed then s
  else settleLane (
    if blocked then (if k = 1 then zone1Blocked s else zoneKBlocked k s)
    else zoneCleared k s)

/-- A change of ZEYEk to a level: an EMPTY or FILLING zone does not act on a change to the level it already reads (R125),
and while RESET_N is low only the pin changes (R134). -/
def zoneEyeTakes (k : Nat) (level : Bool) (s : State) : State :=
  let t := zeyeTakes k level s
  if s.resetLow || (s.pins.zeye.getD (k - 1) true == level && awaitsTote (zone s.lane k)) then t
  else zoneChanged k (readsBlocked s.lane.polarity level) t

/-- The record of a transfer from zone k: in zone k, or in zone k + 1 once it has moved (R124). DESIGN CHOICE (log entry 37): a
record that has gone on past zone k + 1 while zone k still waits for its clear is not looked for there, so the note carries tag 0
and order 0; R124 names no zone but these two. -/
def transferRecord (l : Lane) (k : Nat) : Option LaneRecord :=
  match (zone l k).record with
  | some r => some r
  | none => (zone l (k + 1)).record

/-- The transfer timer of zone k runs out (R124). -/
def transferRunsOut (k : Nat) (s : State) : State :=
  if s.resetLow || s.lane.state == .jammed || (zone s.lane k).timer.isNone then s
  else settleLane (jam 1 (transferRecord s.lane k) k s)

/-- Whether a discharge timeout may be taken: the timer runs, or a completion that came together with the timeout was taken first
(R126, R141; log entry 38). -/
def timeoutMayCome (l : Lane) : Bool := l.discharge.isSome || l.lateTimeout

/-- The discharge timer runs out, or had run out as its discharge was completed (R126, R141). -/
def dischargeRunsOut (s : State) : State :=
  if s.resetLow || s.lane.state == .jammed || !timeoutMayCome s.lane then s else dischargeJams s

/-- REL_BTN takes a level (R136); it is active when low. -/
def buttonTakes (level : Bool) (s : State) : State :=
  let t := { s with pins := { s.pins with relBtn := level } }
  if s.resetLow then t
  else
    match s.counter.button, level with
    | .armed, false => { t with counter := { s.counter with button := .timing, buttonTimer := some 0 } }
    | .timing, true => { t with counter := { s.counter with button := .armed, buttonTimer := none } }
    | .spent, true => { t with counter := { s.counter with button := .armed } }
    | .armed, true | .timing, false | .spent, false => t

/-- The button timer reaches 20 ms with REL_BTN still active: a press is taken (R136). -/
def pressTaken (s : State) : State :=
  if s.resetLow || s.counter.button != .timing then s
  else settleLane (releaseRequest 0
    { s with counter := { s.counter with button := .spent, buttonTimer := none } })

/-- The WAIT lamp timer reaches 2,000 ms (R143). -/
def waitLampOut (s : State) : State :=
  if s.resetLow then s else { s with counter := { s.counter with waitTimer := none } }

end Sys2Proof.Machine
end

