-- ==== Sys2Proof/Machine/Reads.lean ====
section
/-! DEFINITION. The records that the reads answer with (R161 to R163, Table 9-12). -/

namespace Sys2Proof.Machine

/-- The status record, 24 bytes (R161). -/
def statusRecord (s : State) : List Byte :=
  bytes1 s.report.cause.code ++ bytes1 s.line.link.code ++ bytes1 s.belt.state.code ++ bytes2 s.belt.speed
    ++ bytes3 s.belt.pos.toNat ++ bytes1 s.diverter.state.code ++ bytes1 s.lane.state.code
    ++ bytes1 (held s.lane) ++ bytes1 s.lane.inbound.length ++ bytes1 (reserved s.admission)
    ++ bytes1 s.tracking.queue.length ++ bytes1 s.plan.active.code
    ++ bytes1 s.plan.write.cell.dest.val ++ bytes1 s.plan.write.cell.cls.val ++ bytesBool s.plan.write.done
    ++ setBytes s.report.flags ++ bytesBool s.report.lost ++ bytes2 s.line.errors

/-- The identity record, 11 bytes (Table 9-12). -/
def identityRecord : List Byte := [0x57, 0x0C, 0x44, 1, 1, 64, 4, 16, 4, 8, 4]

/-- A tracking record by its fields, 11 bytes, or by its positions, 9 bytes (R162). -/
def trackBytes (positions : Bool) (r : TrackRecord) : List Byte :=
  if positions then bytes3 r.expected.toNat ++ bytes3 r.windowStart.toNat ++ bytes3 r.windowEnd.toNat
  else toteBytes r.tote

/-- READ TRACKING: part 0 FIELDS or 1 POSITIONS, up to two records from the first index on (R162). -/
def trackingReply (fs : List Byte) (k : Tracking) : Reply :=
  if field1 fs 1 ≤ 1 then
    let rs := (k.queue.drop (field1 fs 0)).take 2
    okay false (bytes1 k.queue.length ++ bytes1 rs.length ++ rs.flatMap (trackBytes (field1 fs 1 == 1)))
  else refusal .badValue

/-- The zone state of READ LANE: 4 is PASSING after its record has moved on (R163). -/
def zoneCode (z : Zone) : Nat :=
  match z.state with
  | .empty => 0
  | .filling => 1
  | .held => 2
  | .passing => if z.record.isSome then 3 else 4

/-- A zone as READ LANE gives it: state and record, 0 throughout without a record (R163). -/
def zoneBytes (z : Zone) : List Byte :=
  bytes1 (zoneCode z) ++
    match z.record with
    | some r => laneRecordBytes r
    | none => List.replicate 12 0

/-- The zones of READ LANE part ZONES, up to two from the first zone on (R163). -/
def zonesFrom (l : Lane) (first : Nat) : List Zone :=
  (if first ≤ l.zoneCount then [zone l first] else []) ++ (if first + 1 ≤ l.zoneCount then [zone l (first + 1)] else [])

/-- READ LANE (R163). -/
def laneReply (fs : List Byte) (l : Lane) : Reply :=
  match field1 fs 0 with
  | 0 =>
    if field1 fs 1 = 0 then refusal .badValue
    else
      let zs := zonesFrom l (field1 fs 1)
      okay false (bytes1 l.state.code ++ bytes1 l.zoneCount ++ bytes1 zs.length ++ zs.flatMap zoneBytes)
  | 1 =>
    okay false (bytes1 l.inbound.length ++
      match l.inbound[field1 fs 1]? with
      | some r => bytes1 1 ++ laneRecordBytes r.record ++ bytes3 r.deadline.toNat
      | none => bytes1 0)
  | _ => refusal .badValue

/-- READ RESERVATIONS (R163). -/
def reservationsReply (a : Admission) : Reply :=
  okay false (bytes1 a.table.length
    ++ a.table.flatMap fun r => bytes2 r.order.toNat ++ bytes1 r.zones ++ bytes3 r.expiry.toNat)

end Sys2Proof.Machine
end

