-- ==== Sys2Proof/Machine/Drive.lean ====
section
/-! DEFINITION. The Diverter Drive (chapter 6): leads (R93, R94), timing verdicts (R97 to R99), commitments (R100), trailing
positions (R101), the throw and the return (R102 to R106), the crowding test (R107), faults and the home check (R108,
R109, R112). -/

namespace Sys2Proof.Machine

/-! ### Leads and verdicts -/

/-- The counts that the belt moves in `t` ms at S counts per gate of `g` ms, rounded upward and raised to a floor
(R93). -/
def leadOf (t speed g floor : Nat) : Nat := max ((t * speed + g - 1) / g) floor

/-- The throw lead L with S and G in force (R93). -/
def throwLead (s : State) : Nat :=
  leadOf s.diverter.geometry.throwTime s.belt.speed s.belt.gate.ms s.diverter.geometry.throwFloor

/-- The return lead R with S and G in force (R94). -/
def returnLead (s : State) : Nat :=
  leadOf s.diverter.geometry.returnTime s.belt.speed s.belt.gate.ms s.diverter.geometry.returnFloor

/-- A timing verdict: ON_TIME by arming, joining or re-throw, or LATE with its reason and L (section 6.5). -/
inductive Verdict where
  | arm (fire : Pos)
  | join
  | rethrow (fire : Pos)
  | lateLead (lead : Nat)
  | lateReturn (lead : Nat)
  deriving DecidableEq, Repr

/-- The fire position F = lead + E_p - L (R97). -/
def firePosition (lead : Pos) (s : State) : Pos :=
  minus (plus lead s.diverter.geometry.eyeToPaddle) (throwLead s)

/-- The verdict for a lead position (R97 to R99). In FAULT it is not asked (section 6.5) and is that of REST. -/
def verdict (lead : Pos) (s : State) : Verdict :=
  let l := throwLead s
  let f := firePosition lead s
  match s.diverter.state with
  | .rest | .fault => if s.diverter.geometry.eyeToPaddle < l then .lateLead l else .arm f
  | .armed | .throwing | .holding => .join
  | .returning =>
    if s.diverter.fire.isSome then .join
    else if s.diverter.geometry.eyeToPaddle < l then .lateLead l
    else
      match s.diverter.clear with
      | some c => if isBefore f c then .lateReturn l else .rethrow f
      | none => .rethrow f

/-! ### The throw, the return and the home check -/

/-- A phase timer started at 0 with a length. -/
def startPhase (part : PhasePart) (length : Nat) : Option Phase := some ⟨part, 0, length, 0⟩

/-- The throw starts (R102). -/
def startThrow (d : Diverter) : Diverter :=
  { d with fire := none, state := .throwing, phase := startPhase .throwing d.geometry.throwTime }

/-- The return starts (R104). -/
def startReturn (d : Diverter) : Diverter :=
  { d with state := .returning, phase := startPhase .returning d.geometry.returnTime }

/-- ARMED, or THROWING at once when the fire position is at or before P (R100, R102, R106). -/
def enterArmed (now : Pos) (d : Diverter) : Diverter :=
  match d.fire with
  | some f => if reachedWhenSet now f then startThrow d else { d with state := .armed, phase := none }
  | none => { d with state := .armed, phase := none }

/-- HOLDING, or RETURNING at once when a release position is at or before P (R103). The first drive period takes the hold
duty in force. -/
def enterHolding (now : Pos) (d : Diverter) : Diverter :=
  let h := { d with state := .holding, phase := none, duty := d.geometry.holdDuty }
  match d.release with
  | some r => if reachedWhenSet now r then startReturn h else h
  | none => h

/-- A completed return gives REST, or ARMED with a re-throw pending (R106). -/
def returnComplete (now : Pos) (d : Diverter) : Diverter :=
  if d.fire.isSome then enterArmed now d
  else { d with state := .rest, phase := none, release := none, clear := none, flag := false }

/-- A home check: RETURNING with no position stored, the flag clear and the RETURN part at 0 (R109, R112). -/
def homeCheck (d : Diverter) : Diverter :=
  startReturn { d with fire := none, release := none, clear := none, flag := false }

/-- The Diverter Drive enters FAULT and raises DIVERTER_FAULT with a detail and the milliseconds that the failed phase
ran (R108). -/
def enterFault (detail ran : Nat) (s : State) : State :=
  raise .diverterFault ⟨0, 0, detail, valueOf ran, s.belt.pos⟩
    { s with diverter := { s.diverter with
        state := .fault, phase := none, fire := none, release := none, clear := none, flag := false } }

/-! ### Commitments, trailing positions and the crowding test -/

/-- A DIVERTED commitment carries out its verdict (R100). A LATE verdict is not committed. -/
def commitVerdict (v : Verdict) (now : Pos) (d : Diverter) : Diverter :=
  match v with
  | .arm f => enterArmed now { d with fire := some f }
  | .join => { d with release := none, clear := none, flag := true }
  | .rethrow f => { d with fire := some f, release := none, flag := true }
  | .lateLead _ | .lateReturn _ => d

/-- The release position of a trailing position: trail + E_p + m (R94). -/
def releasePosition (trail : Pos) (g : Geometry) : Pos := plus (plus trail g.eyeToPaddle) g.margin

/-- A delivered trailing position (R101): release and clear are set and the flag is cleared, and in HOLDING a release at or
before P starts the return at once; in REST and FAULT only the flag is cleared. -/
def trailingTaken (trail : Pos) (s : State) : State :=
  let d := s.diverter
  match d.state with
  | .rest | .fault => { s with diverter := { d with flag := false } }
  | .armed | .throwing | .holding | .returning =>
    let r := releasePosition trail d.geometry
    let e := { d with release := some r, clear := some (plus r (returnLead s)), flag := false }
    if d.state = .holding ∧ reachedWhenSet s.belt.pos r = true then { s with diverter := startReturn e }
    else { s with diverter := e }

/-- The crowding test for a lead position (R107). -/
def isCrowded (lead : Pos) (d : Diverter) : Bool :=
  match d.state with
  | .rest | .fault => false
  | .armed | .throwing | .holding | .returning =>
    d.flag ||
    match d.release, d.clear with
    | some _, some c => isBefore (plus lead d.geometry.eyeToPaddle) c
    | some _, none => false
    | none, _ => true

/-! ### Ends of phases -/

/-- Whether a part of the phase timer runs. -/
def phaseRuns (part : PhasePart) (d : Diverter) : Bool :=
  match d.phase with
  | some p => p.part == part
  | none => false

/-- The length of the running phase, and the milliseconds before it (R108). -/
def phaseRan (d : Diverter) : Nat :=
  match d.phase with
  | some p => p.ran + p.length
  | none => 0

/-- The THROW part ends and HOME is read (R103). -/
def throwEnds (home : Bool) (s : State) : State :=
  if home then enterFault 0 (phaseRan s.diverter) s
  else { s with diverter := enterHolding s.belt.pos s.diverter }

/-- The RETURN part ends and HOME is read (R105): the return is complete, or the home wait starts with the grace in
force, or FAULT follows at once when the grace is 0. -/
def returnEnds (home : Bool) (s : State) : State :=
  if home then { s with diverter := returnComplete s.belt.pos s.diverter }
  else if s.diverter.geometry.grace = 0 then enterFault 1 (phaseRan s.diverter) s
  else { s with diverter := { s.diverter with
    phase := some ⟨.homeWait, 0, s.diverter.geometry.grace, phaseRan s.diverter⟩ } }

/-- HOME takes a reading. -/
def homeReads (home : Bool) (s : State) : State := { s with pins := { s.pins with home := home } }

/-- The end of the THROW part, with HOME read; nothing but the pin when no throw runs (R103). -/
def throwOver (home : Bool) (s : State) : State :=
  let t := homeReads home s
  if s.resetLow || !phaseRuns .throwing s.diverter then t else throwEnds home t

/-- The end of the RETURN part, with HOME read (R105). -/
def returnOver (home : Bool) (s : State) : State :=
  let t := homeReads home s
  if s.resetLow || !phaseRuns .returning s.diverter then t else returnEnds home t

/-- HOME becomes active; in the home wait the return is complete at that moment (R105). -/
def homeBecomesActive (s : State) : State :=
  let t := homeReads true s
  if s.resetLow || !phaseRuns .homeWait s.diverter then t
  else { t with diverter := returnComplete s.belt.pos s.diverter }

/-- The home wait ends with HOME still not active (R105, R108). -/
def homeWaitOver (s : State) : State :=
  if s.resetLow || !phaseRuns .homeWait s.diverter then s else enterFault 1 (phaseRan s.diverter) s

end Sys2Proof.Machine
end

