-- ==== Sys2Proof/Machine/Plan.lean ====
section
/-! DEFINITION. The Route Plan (chapter 4): cells and lookups (R50, R51), the walk of the window (R53), the loading of the
standby bank (R52 to R59), reading back (R60 to R62), swapping and copying (R63, R65). -/

namespace Sys2Proof.Machine

/-! ### Cells -/

/-- The other bank (R51). -/
def otherBank : Bank → Bank
  | .a => .b
  | .b => .a

/-- The standby bank is the one that is not active (R51). -/
def standby (p : RoutePlan) : Bank := otherBank p.active

/-- The cells of a bank. -/
def bankCells (p : RoutePlan) : Bank → BankCells
  | .a => p.bankA
  | .b => p.bankB

/-- The action that a bank holds in a cell (R50). -/
def cellOf (cells : BankCells) (c : Cell) : Action := (cells.get c.dest).get c.cls

/-- A bank with one cell written (R50). -/
def putCell (cells : BankCells) (c : Cell) (a : Action) : BankCells :=
  cells.set c.dest ((cells.get c.dest).set c.cls a)

/-- The plan with the cells of one bank replaced. -/
def putBank (p : RoutePlan) (k : Bank) (cells : BankCells) : RoutePlan :=
  match k with
  | .a => { p with bankA := cells }
  | .b => { p with bankB := cells }

/-- The action of a decision: that of the active bank, and PASS for a destination of NONE (R51). -/
def lookup (p : RoutePlan) (dest : Option (Fin 64)) (cls : Fin 4) : Action :=
  match dest with
  | none => .pass
  | some d => cellOf (bankCells p p.active) ⟨d, cls⟩

/-! ### The walk -/

/-- The next destination of the window, if there is one (R53). -/
def nextDest (p : RoutePlan) (d : Fin 64) : Option (Fin 64) :=
  if h : d < p.d1 then some ⟨d.val + 1, by have := p.d1.isLt; omega⟩ else none

/-- The next class of the window, if there is one (R53). -/
def nextClass (p : RoutePlan) (c : Fin 4) : Option (Fin 4) :=
  if h : c < p.c1 then some ⟨c.val + 1, by have := p.c1.isLt; omega⟩ else none

/-- The cell that the walk takes after a cell; none after the window's last (R53). -/
def nextCell (p : RoutePlan) (c : Cell) : Option Cell :=
  match p.order with
  | .destFirst =>
    match nextDest p c.dest with
    | some d => some ⟨d, c.cls⟩
    | none => (nextClass p c.cls).map fun k => ⟨p.d0, k⟩
  | .classFirst =>
    match nextClass p c.cls with
    | some k => some ⟨c.dest, k⟩
    | none => (nextDest p c.dest).map fun d => ⟨d, p.c0⟩

/-- The window start with a clear done flag (R54, R58). -/
def windowStart (p : RoutePlan) : Cursor := ⟨⟨p.d0, p.c0⟩, false⟩

/-- A cursor one step along the walk; on the last cell it stays there, done (R53). -/
def advance (p : RoutePlan) (c : Cursor) : Cursor :=
  match nextCell p c.cell with
  | some n => ⟨n, false⟩
  | none => ⟨c.cell, true⟩

/-! ### Loading -/

/-- A load under way: the plan, the number of values stored, and whether one of them was changed to PASS. -/
structure Load where
  plan    : RoutePlan
  written : Nat
  clamped : Bool
  deriving DecidableEq, Repr

/-- One entry value stored in the standby bank under the write cursor, which advances; a value that is no action is
stored as PASS (R55, R56). -/
def storeValue (p : RoutePlan) (v : Byte) : RoutePlan :=
  let stored := putBank p (standby p)
    (putCell (bankCells p (standby p)) p.write.cell ((actionOfCode v.toNat).getD .pass))
  { stored with write := advance p p.write }

/-- The entry values in their order, until the write cursor is done; the rest is discarded unexamined (R55, R57). -/
def storeValues : List Byte → Load → Load
  | [], l => l
  | v :: vs, l =>
    if l.plan.write.done then l
    else storeValues vs
      { plan := storeValue l.plan v, written := l.written + 1, clamped := l.clamped || (actionOfCode v.toNat).isNone }

/-- The answer of a load: written, discarded, write cursor and done flag (R59). -/
def loadReply (l : Load) (total : Nat) : Reply :=
  okay l.clamped (bytes1 l.written ++ bytes1 (total - l.written) ++ bytes1 l.plan.write.cell.dest.val
    ++ bytes1 l.plan.write.cell.cls.val ++ bytesBool l.plan.write.done)

/-- CONTINUE ENTRIES writes from the write cursor as it stands (R57). -/
def continueLoad (vs : List Byte) (p : RoutePlan) : Load := storeValues vs ⟨p, 0, false⟩

/-- WRITE ENTRIES first places the write cursor at the window start (R55). -/
def startLoad (vs : List Byte) (p : RoutePlan) : Load := continueLoad vs { p with write := windowStart p }

/-! ### Reading back -/

/-- The bank that a selector names: 0 A, 1 B, 2 active, 3 standby (R60). -/
def bankOfSelector (p : RoutePlan) : Nat → Option Bank
  | 0 => some .a
  | 1 => some .b
  | 2 => some p.active
  | 3 => some (standby p)
  | _ => none

/-- Actions of a bank along the walk from a cursor, at most `n` of them, and the cursor after them (R61). -/
def readValues (p : RoutePlan) (cells : BankCells) : Nat → Cursor → List Action × Cursor
  | 0, c => ([], c)
  | n + 1, c =>
    if c.done then ([], c)
    else
      let rest := readValues p cells n (advance p c)
      (cellOf cells c.cell :: rest.1, rest.2)

/-- The answer of a read: the number of actions returned, then the actions (R61). -/
def readReply (as : List Action) : Reply :=
  okay false (bytes1 as.length ++ as.flatMap fun a => bytes1 a.code)

/-- A read from a given cursor, refused for an unknown selector or a count out of 1 to 28 (R60 to R62). -/
def readFrom (start : Cursor) (selector count : Nat) (p : RoutePlan) : RoutePlan × Reply :=
  match bankOfSelector p selector with
  | none => (p, refusal .badValue)
  | some bank =>
    if 1 ≤ count ∧ count ≤ 28 then
      let r := readValues p (bankCells p bank) count start
      ({ p with read := r.2 }, readReply r.1)
    else (p, refusal .badValue)

/-! ### The plan asks -/

/-- SET WINDOW (R52, R54). -/
def planSetWindow (fs : List Byte) (p : RoutePlan) : RoutePlan × Reply :=
  let d0 := field1 fs 0
  let d1 := min (field1 fs 1) 63
  let c0 := field1 fs 2
  let c1 := min (field1 fs 3) 3
  match orderOfCode (field1 fs 4) with
  | none => (p, refusal .badValue)
  | some order =>
    if d0 ≤ d1 ∧ c0 ≤ c1 then
      let q := { p with d0 := Fin.ofNat 64 d0, d1 := Fin.ofNat 64 d1, c0 := Fin.ofNat 4 c0, c1 := Fin.ofNat 4 c1,
                        order := order }
      ({ q with write := windowStart q, read := windowStart q },
       okay (d1 != field1 fs 1 || c1 != field1 fs 3)
         (bytes1 d0 ++ bytes1 d1 ++ bytes1 c0 ++ bytes1 c1 ++ bytes1 order.code))
    else (p, refusal .badValue)

/-- WRITE ENTRIES (R55). -/
def planWriteEntries (fs : List Byte) (p : RoutePlan) : RoutePlan × Reply :=
  let l := startLoad fs p
  (l.plan, loadReply l fs.length)

/-- CONTINUE ENTRIES (R57). -/
def planContinueEntries (fs : List Byte) (p : RoutePlan) : RoutePlan × Reply :=
  let l := continueLoad fs p
  (l.plan, loadReply l fs.length)

/-- READ ENTRIES (R61). -/
def planReadEntries (fs : List Byte) (p : RoutePlan) : RoutePlan × Reply :=
  readFrom (windowStart p) (field1 fs 0) (field1 fs 1) p

/-- CONTINUE READ (R62). -/
def planContinueRead (fs : List Byte) (p : RoutePlan) : RoutePlan × Reply :=
  readFrom p.read (field1 fs 0) (field1 fs 1) p

/-- SWAP PLAN (R63). -/
def planSwap (p : RoutePlan) : RoutePlan × Reply :=
  ({ p with active := standby p, write := windowStart p }, okay false (bytes1 (standby p).code))

/-- COPY PLAN (R65). -/
def planCopy (p : RoutePlan) : RoutePlan × Reply :=
  ({ putBank p (standby p) (bankCells p p.active) with write := windowStart p }, okay false (bytes1 (standby p).code))

end Sys2Proof.Machine
end

