-- ==== Sys2Proof/Machine/Track.lean ====
section
/-! DEFINITION. The Tracking Unit (chapter 3): records (R32), the queue and its head deadline (R33 to R35), runs of
expiries (R36, R37) and the match at a leading edge (R39 to R42). -/

namespace Sys2Proof.Machine

/-- The record of a normalised frame with the settings and P in force at its arrival (R32). -/
def trackRecord (t : ToteFields) (now : Pos) (k : Tracking) : TrackRecord :=
  let e := plus now k.upstream
  { tote := t, expected := e, windowStart := minus e k.early, windowEnd := plus e k.late }

/-- The head deadline of a queue: the window end of the head plus one, absent when the queue is empty (R35). -/
def headDeadlineOf : List TrackRecord → Option Pos
  | [] => none
  | r :: _ => some (plus r.windowEnd 1)

/-- Whether a record that becomes the head has outlived its window (R37). -/
def outlived (now : Pos) (r : TrackRecord) : Bool := reachedWhenSet now (plus r.windowEnd 1)

/-- The MISSED_TOTE notes of a run, the first of them carrying its place `n` in the run (R36, R37). -/
def missedNotes (now : Pos) : Nat → List TrackRecord → List NoteBody
  | _, [] => []
  | n, r :: rs => ⟨r.tote.tag, r.tote.order, r.tote.source.toNat, valueOf n, now⟩ :: missedNotes now (n + 1) rs

/-- The queue after its head was removed, with `missed` the records that the removal itself missed: heads that have
outlived their windows are removed in the same run, whose places count from 1, and the head deadline is set from the
record that is left at the head (R35, R37). -/
def settleHead (missed rest : List TrackRecord) (s : State) : State :=
  let gone := missed ++ rest.takeWhile (outlived s.belt.pos)
  let left := rest.dropWhile (outlived s.belt.pos)
  raiseAll .missedTote (missedNotes s.belt.pos 1 gone)
    { s with tracking := { s.tracking with queue := left, headDeadline := headDeadlineOf left } }

/-- The head record expires with its run (R36, R37). -/
def expireHead (s : State) : State :=
  match s.tracking.queue with
  | [] => s
  | r :: rest => settleHead [r] rest s

/-- A normalised frame is appended at the tail, or discarded with TRACK_FULL when the queue holds 16 records
(R33, R34). -/
def takeTote (t : ToteFields) (s : State) : State :=
  if s.tracking.queue.length < Config.trackingDepth then
    let r := trackRecord t s.belt.pos s.tracking
    let q := s.tracking.queue ++ [r]
    { s with tracking := { s.tracking with
        queue := q
        headDeadline := if s.tracking.queue.isEmpty then headDeadlineOf q else s.tracking.headDeadline } }
  else
    raise .trackFull ⟨t.tag, t.order, t.source.toNat, (destByte t.dest).setWidth 16, s.belt.pos⟩ s

/-- The match at a leading edge at lead position `p` (R39 to R42): the copy of the matched record or none, and the node
after it. A lead position after the head window, which does not arise (section 3.5), is taken as an early one. -/
def matchLead (p : Pos) (s : State) : Option ToteFields × State :=
  match s.tracking.queue with
  | [] => (none, raise .unknownTote ⟨0, 0, 0, 0, p⟩ s)
  | r :: rest =>
    if atOrAfter p r.windowStart && atOrAfter r.windowEnd p then (some r.tote, settleHead [] rest s)
    else (none, raise .unknownTote ⟨r.tote.tag, r.tote.order, 1, valueOfInt (signedDist p r.windowStart), p⟩ s)

end Sys2Proof.Machine
end

