-- ==== Sys2Proof/Machine/Admit.lean ====
section
/-! DEFINITION. The Admission Unit (chapter 5): the decision (R71 to R77), the commitment of a divert (R79, R80), totes that stay
on the belt (R81 to R83) and reservations (R84 to R87). -/

namespace Sys2Proof.Machine

/-! ### The decision -/

/-- How a tote is admitted: with no reservation, on the reservation of its order, or with a call for a new one of so many
zones (R73, R75, R76). -/
inductive Admit where
  | plain
  | onReservation
  | newReservation (zones : Nat)
  deriving DecidableEq, Repr

/-- The result of steps 1 to 9 of Table 5-3; a refusal carries the detail and the value of REFUSED (Table 5-4). -/
inductive Decision where
  | pass
  | passUnknown
  | refused (detail value : Nat)
  | admitted (how : Admit)
  deriving DecidableEq, Repr

/-- Whether the inbound list holds 4 records (R73). -/
def inboundFull (l : Lane) : Bool := decide (Config.inboundDepth ≤ l.inbound.length)

/-- Entry ready, enough unreserved zones, and room in the inbound list (R75, R76). -/
def roomFor (n : Nat) (s : State) : Bool :=
  entryReady s.lane && decide ((n : Int) ≤ unreserved s) && !inboundFull s.lane

/-- Step 9: DIVERT (R76). -/
def decideDivert (s : State) : Decision := if roomFor 1 s then .admitted .plain else .refused 1 1

/-- The zones that an order still requires: count - sequence + 1 (R75). -/
def needed (t : ToteFields) : Nat := t.count + 1 - t.seq

/-- The reservation entry of an order, if the table holds one (R73). -/
def hasReservation (order : Ident) (a : Admission) : Bool := a.table.any fun r => r.order == order

/-- Steps 6 to 8: GROUP (R73 to R75). -/
def decideGroup (t : ToteFields) (s : State) : Decision :=
  if hasReservation t.order s.admission then
    if inboundFull s.lane then .refused 1 1 else .admitted .onReservation
  else if t.order = 0 ∨ s.admission.refusalLimit ≤ t.refusals then decideDivert s
  else if s.lane.zoneCount < needed t then .refused 3 (needed t)
  else if 1 < needed t ∧ Config.reservationDepth ≤ s.admission.table.length then .refused 1 (needed t)
  else if roomFor (needed t) s then .admitted (if 1 < needed t then .newReservation (needed t - 1) else .plain)
  else .refused 1 (needed t)

/-- Steps 3 to 5: lockout, jam and class, tested before room (R72). -/
def declined (t : ToteFields) (s : State) : Option Decision :=
  if s.diverter.state = .fault then some (.refused 0 0)
  else if s.lane.state = .jammed then some (.refused 1 0)
  else if s.lane.accepted.getLsbD t.cls.val then none
  else some (.refused 2 t.cls.val)

/-- Steps 1 to 9 of Table 5-3 for a match result (R71 to R76). -/
def decision (m : Option ToteFields) (s : State) : Decision :=
  match m with
  | none => .passUnknown
  | some t =>
    match lookup s.plan t.dest t.cls with
    | .pass => .pass
    | .divert => (declined t s).getD (decideDivert s)
    | .group => (declined t s).getD (decideGroup t s)

/-! ### Reservations -/

/-- One zone of an order's entry is used; an entry that reaches 0 is removed (R79). -/
def useReservation (order : Ident) (a : Admission) : Admission :=
  { a with table := a.table.filterMap fun r =>
      if r.order = order then (if r.zones ≤ 1 then none else some { r with zones := r.zones - 1 }) else some r }

/-- An entry is created for an order; an expiry at or before P is reached at once and the entry lapses (R85). -/
def createReservation (order : Ident) (zones : Nat) (lead : Pos) (s : State) : State :=
  let r : Reservation := ⟨order, zones, plus lead s.admission.span⟩
  if reachedWhenSet s.belt.pos r.expiry then raise .reservationLapsed (lapsedNote s.belt.pos 0 r) s
  else { s with admission := { s.admission with table := s.admission.table ++ [r] } }

/-- The reservation part of a commitment (R79). -/
def commitReservation (how : Admit) (t : ToteFields) (lead : Pos) (s : State) : State :=
  match how with
  | .plain => s
  | .onReservation => { s with admission := useReservation t.order s.admission }
  | .newReservation n => createReservation t.order n lead s

/-! ### Commitments -/

/-- The entry deadline of a lead position: lead + E_p + entry distance (R80). -/
def entryDeadline (lead : Pos) (s : State) : Pos :=
  plus (plus lead s.diverter.geometry.eyeToPaddle) s.lane.entryDistance

/-- An inbound record is appended at the tail of the inbound list (R80). -/
def appendInbound (t : ToteFields) (carried : Bool) (lead : Pos) (s : State) : State :=
  { s with lane := { s.lane with inbound := s.lane.inbound ++ [⟨⟨t, carried⟩, entryDeadline lead s⟩] } }

/-- The commitment of a DIVERTED tote (R79): the diverter, the inbound record and the reservation, together; the lane then
follows its inbound list (R117). -/
def commitDivert (v : Verdict) (how : Admit) (t : ToteFields) (lead : Pos) (s : State) : State :=
  settleLane (commitReservation how t lead (appendInbound t false lead
    { s with diverter := commitVerdict v s.belt.pos s.diverter }))

/-! ### Totes that stay on the belt -/

/-- The pass-type outcomes, with what their events carry (section 5.3, Table 5-4). -/
inductive PassKind where
  | pass
  | passUnknown
  | refused (detail value : Nat)
  | late (detail lead : Nat)
  deriving DecidableEq, Repr

/-- The code of a replaced outcome in the value of CROWDED (Table 5-4). -/
def PassKind.code : PassKind → Nat
  | .pass => 0 | .passUnknown => 1 | .refused _ _ => 2 | .late _ _ => 3

/-- The outcome of a pass-type tote that is not crowded. -/
def PassKind.outcome : PassKind → ToteOutcome
  | .pass => .pass | .passUnknown => .passUnknown | .refused _ _ => .refused | .late _ _ => .passedLate

/-- The refusals value of the hand-off (R82). -/
def handOffRefusals (k : PassKind) (refusals : Nat) : Nat :=
  match k with
  | .pass | .passUnknown => refusals
  | .refused _ _ | .late _ _ => min (refusals + 1) 15

/-- The hand-off frame of a tote (R82). -/
def handOffFrame (k : PassKind) (t : ToteFields) (s : State) : Frame :=
  { kind := .tote, target := 0, source := positionByte s.line, tag := 0,
    payload := totePayload t (handOffRefusals k t.refusals) }

/-- The event of a pass-type outcome that is not crowded (R89). -/
def raisePassed (k : PassKind) (t : ToteFields) (lead : Pos) (s : State) : State :=
  match k with
  | .pass | .passUnknown => s
  | .refused detail value => raise .refused ⟨t.tag, t.order, detail, valueOf value, lead⟩ s
  | .late detail l => raise .passedLate ⟨t.tag, t.order, detail, valueOf l, lead⟩ s

/-- A crowded tote is CARRIED when the inbound list and the zones have room for it (R81). -/
def canCarry (l : Lane) : Bool := !inboundFull l && decide (held l + l.inbound.length < l.zoneCount)

/-- A crowded tote leaves the belt here (R81): CARRIED into the inbound list, with a trim, or UNTRACKED. CROWDED comes before the
notes of a lane that follows its inbound list at once: DESIGN CHOICE (log entry 39). -/
def crowdedTote (k : PassKind) (t : ToteFields) (lead : Pos) (s : State) : State :=
  let note := fun detail => (⟨t.tag, t.order, detail, valueOf k.code, lead⟩ : NoteBody)
  if canCarry s.lane then settleLane (raise .crowded (note 0) (trim (appendInbound t true lead s)))
  else raise .crowded (note 1) s

/-- A tote with a pass-type outcome takes the crowding test (R81) and, when it is not crowded, is handed on (R82). -/
def passTote (k : PassKind) (t : ToteFields) (lead : Pos) (s : State) : State × ToteOutcome :=
  if isCrowded lead s.diverter then (crowdedTote k t lead s, .crowded)
  else
    let u := raisePassed k t lead s
    (offerHandOff (handOffFrame k t u) t.tag t.order lead u, k.outcome)

/-- An admitted tote takes the timing verdict (R77). -/
def admitTote (how : Admit) (t : ToteFields) (lead : Pos) (s : State) : State × ToteOutcome :=
  match verdict lead s with
  | .lateLead l => passTote (.late 0 l) t lead s
  | .lateReturn l => passTote (.late 1 l) t lead s
  | .arm f => (commitDivert (.arm f) how t lead s, .diverted)
  | .join => (commitDivert .join how t lead s, .diverted)
  | .rethrow f => (commitDivert (.rethrow f) how t lead s, .diverted)

/-- The whole decision of one leading edge (Table 5-3); an anonymous tote has the anonymous field set (R42). -/
def decideTote (m : Option ToteFields) (lead : Pos) (s : State) : State × ToteOutcome :=
  let t := m.getD anonymousFields
  match decision m s with
  | .pass => passTote .pass t lead s
  | .passUnknown => passTote .passUnknown t lead s
  | .refused detail value => passTote (.refused detail value) t lead s
  | .admitted how => admitTote how t lead s

end Sys2Proof.Machine
end

