-- ==== Sys2Proof/Machine/EyeUnit.lean ====
section
/-! DEFINITION. The Eye Unit (chapter 2): eye changes (R15 to R19), the confirmed trailing edge (R20 to R23), the blocked eye
(R24) and the sample at a reset or a polarity change (R26, R27). -/

namespace Sys2Proof.Machine

/-! ### The leading edge -/

/-- Step 1 of a leading edge (R16). -/
def leadTaken (now : Pos) (e : Eye) : Eye :=
  { e with state := .blocked, lead := some now, blockedDeadline := some ⟨plus now e.maxLength, e.maxLength⟩ }

/-- The context of a leading edge (R16, Table 2-3). -/
def leadContext (m : Option ToteFields) (lead : Pos) (o : ToteOutcome) : EyeContext :=
  match m with
  | some t => .matched t lead o
  | none => .anonymous lead o

/-- A leading edge: the lead position, the match, the decision and the context (R16). DESIGN CHOICE (log entry 36): the lead is always
P. Of a leading edge and a count event that come together (R17) the one taken second is the later command, so the lead never lies
one count behind P when the decision sets an expiry, and the lapse at once of R85 is taken at that count event. -/
def leadingEdge (s : State) : State :=
  let lead := s.belt.pos
  let m := matchLead lead { s with eye := leadTaken lead s.eye }
  let d := decideTote m.1 lead m.2
  { d.1 with eye := { d.1.eye with context := leadContext m.1 lead d.2 } }

/-! ### Changes of the eye -/

/-- A change to clear in BLOCKED starts the clear debounce (R18). -/
def clearingStarts (now : Pos) (e : Eye) : Eye :=
  { e with state := .clearing, clearing := some now, debounceEnd := some (plus now e.debounce) }

/-- A change to blocked in CLEARING merges the gap (R19). -/
def gapMerged (e : Eye) : Eye := { e with state := .blocked, clearing := none, debounceEnd := none }

/-- An eye change to blocked or to clear, by the eye state (R15, Table 2-4). -/
def eyeChanged (blocked : Bool) (s : State) : State :=
  match s.eye.state, blocked with
  | .clear, true => leadingEdge s
  | .blocked, false => { s with eye := clearingStarts s.belt.pos s.eye }
  | .clearing, true => { s with eye := gapMerged s.eye }
  | .clear, false | .blocked, true | .clearing, false => s

/-- EYE takes a level; while RESET_N is low only the pin changes (R15). -/
def eyeTakes (level : Bool) (s : State) : State :=
  let t := { s with pins := { s.pins with eye := level } }
  if s.resetLow then t else eyeChanged (readsBlocked s.eye.polarity level) t

/-! ### The trailing edge -/

/-- The outcome in a context, if it has one (Table 2-3). -/
def contextOutcome : EyeContext → Option ToteOutcome
  | .matched _ _ o => some o
  | .anonymous _ o => some o
  | .noLead => none
  | .empty => none

/-- Whether the trailing position goes to the Diverter Drive (R23). -/
def deliversTrail (c : EyeContext) : Bool :=
  contextOutcome c == some .diverted || contextOutcome c == some .crowded

/-- The trailing position is passed to the Diverter Drive when R23 calls for it. -/
def deliverTrail (trail : Pos) (s : State) : State :=
  if deliversTrail s.eye.context then trailingTaken trail s else s

/-- The length check of a matched tote (R21, R22). -/
def lengthCheck (trail : Pos) (s : State) : State :=
  match s.eye.context with
  | .matched t lead _ =>
    let length := signedDist lead trail
    if s.eye.tolerance < (length - (s.eye.nominal.get t.cls : Int)).natAbs then
      raise .lengthMismatch ⟨t.tag, t.order, t.cls.val, lengthValue length, trail⟩ s
    else s
  | .anonymous _ _ | .noLead | .empty => s

/-- The Eye Unit with no tote: CLEAR, no position, no deadline and an empty context (R20, R27). -/
def clearedEye (e : Eye) : Eye :=
  { e with state := .clear, lead := none, clearing := none, debounceEnd := none, blockedDeadline := none,
           context := .empty }

/-- The trailing edge is confirmed (R20). -/
def confirmTrail (s : State) : State :=
  let trail := s.eye.clearing.getD s.belt.pos
  let t := deliverTrail trail (lengthCheck trail s)
  { t with eye := clearedEye t.eye }

/-! ### The blocked eye -/

/-- The tote tag, order and detail of EYE_BLOCKED by context (R24). -/
def blockedTags : EyeContext → Ident × Ident × Nat
  | .matched t _ _ => (t.tag, t.order, 0)
  | .anonymous _ _ => (0, 0, 0)
  | .noLead | .empty => (0, 0, 1)

/-- EYE_BLOCKED is raised and the deadline is removed (R24). -/
def eyeBlocked (d : BlockedDeadline) (s : State) : State :=
  let g := blockedTags s.eye.context
  raise .eyeBlocked ⟨g.1, g.2.1, g.2.2, valueOf d.maxLength, s.belt.pos⟩
    { s with eye := { s.eye with blockedDeadline := none } }

/-! ### Samples -/

/-- The Eye Unit with no tote, its state set from a sample of EYE; a blocked sample gives a context of kind NO_LEAD and a
blocked-too-long deadline (R27). -/
def sampledEye (now : Pos) (level : Bool) (e : Eye) : Eye :=
  if readsBlocked e.polarity level then
    { clearedEye e with
      state := .blocked, blockedDeadline := some ⟨plus now e.maxLength, e.maxLength⟩, context := .noLead }
  else clearedEye e

/-- The trailing position of a tote ended by a polarity change, if there is a tote (R26). -/
def endedTrail (s : State) : Option Pos :=
  match s.eye.state with
  | .clear => none
  | .blocked => some s.belt.pos
  | .clearing => some (s.eye.clearing.getD s.belt.pos)

/-- The eye polarity has changed: the present tote is ended and the eye is read anew (R26). -/
def polarityChanged (s : State) : State :=
  let t := match endedTrail s with
    | some trail => deliverTrail trail s
    | none => s
  { t with eye := sampledEye t.belt.pos t.pins.eye t.eye }

end Sys2Proof.Machine
end

