-- ==== Sys2Proof/Machine/Deadlines.lean ====
section
/-! DEFINITION. Position deadlines (R5 to R7): which of them the last count event has reached, what each does, and the settling
of those that are still to be taken when another command comes. -/

namespace Sys2Proof.Machine

/-- P stands at a deadline, and its block is not held in reset (R4, R5). -/
def reaches (s : State) (d : Option Pos) : Bool := !s.resetLow && d == some s.belt.pos

/-- P is at the end of the clear debounce in CLEARING (R20). -/
def trailingDue (s : State) : Bool := reaches s s.eye.debounceEnd && s.eye.state == .clearing

/-- P is at the blocked-too-long deadline in BLOCKED or CLEARING (R24). -/
def blockedDue (s : State) : Bool :=
  reaches s (s.eye.blockedDeadline.map (·.pos)) && s.eye.state != .clear

/-- P is at the head deadline (R36). -/
def headDue (s : State) : Bool := reaches s s.tracking.headDeadline

/-- P is at the expiry of a reservation entry (R87). -/
def reservationDue (s : State) : Bool := s.admission.table.any fun r => reaches s (some r.expiry)

/-- P is at the fire position in ARMED (R102). -/
def fireDue (s : State) : Bool := reaches s s.diverter.fire && s.diverter.state == .armed

/-- P is at the release position in HOLDING (R104). -/
def releaseDue (s : State) : Bool := reaches s s.diverter.release && s.diverter.state == .holding

/-- P is at the entry deadline of an inbound record (R120). -/
def entryDue (s : State) : Bool := s.lane.inbound.any fun r => reaches s (some r.deadline)

/-- The end of the clear debounce is taken if it is reached (R20). -/
def takeTrailing (s : State) : State := if trailingDue s then confirmTrail s else s

/-- The blocked-too-long deadline is taken if it is reached; when the end of the clear debounce is reached by the same count
event, that end is taken first and removes the deadline (R24). -/
def takeBlocked (s : State) : State :=
  if trailingDue s && blockedDue s then confirmTrail s
  else if blockedDue s then
    match s.eye.blockedDeadline with
    | some d => eyeBlocked d s
    | none => s
  else s

/-- The head deadline is taken if it is reached (R36, R37). -/
def takeHead (s : State) : State := if headDue s then expireHead s else s

/-- The entries whose expiry P has reached are removed in creation order (R87). -/
def takeReservations (s : State) : State :=
  if reservationDue s then
    raiseAll .reservationLapsed
      ((s.admission.table.filter fun r => r.expiry == s.belt.pos).map (lapsedNote s.belt.pos 0))
      { s with admission := { s.admission with table := s.admission.table.filter fun r => r.expiry != s.belt.pos } }
  else s

/-- The fire position is taken if it is reached (R102). -/
def takeFire (s : State) : State := if fireDue s then { s with diverter := startThrow s.diverter } else s

/-- The release position is taken if it is reached (R104). -/
def takeRelease (s : State) : State := if releaseDue s then { s with diverter := startReturn s.diverter } else s

/-- The inbound records whose entry deadline P has reached are removed in list order, and zone 1 follows the list
(R117, R120). -/
def takeEntries (s : State) : State :=
  if entryDue s then
    settleLane (raiseAll .entryMissed
      ((s.lane.inbound.filter fun r => r.deadline == s.belt.pos).map (missedEntryNote s.belt.pos 0))
      { s with lane := { s.lane with inbound := s.lane.inbound.filter fun r => r.deadline != s.belt.pos } })
  else s

/-- Every deadline that the last count event has reached and that is still to be taken is taken, in one of the orders that
R7 allows: a command that comes after a count event finds the blocks as that count event leaves them. -/
def settle (s : State) : State :=
  takeEntries (takeRelease (takeFire (takeReservations (takeHead (takeBlocked (takeTrailing s))))))

/-- Whether some deadline is reached and still to be taken. -/
def anyDue (s : State) : Bool :=
  trailingDue s || blockedDue s || headDue s || reservationDue s || fireDue s || releaseDue s || entryDue s

/-! ### Encoder edges -/

/-- Whether an edge to a level is counted (R1). -/
def counted (select : EdgeSelect) (level : Bool) : Bool :=
  match select with
  | .rising => level
  | .falling => !level
  | .both => true

/-- A counted edge: P advances by one and, while a gate runs, the accumulator takes the edge (R3, R8). No gate runs while
RESET_N is low (R4). -/
def countEvent (gateRuns : Bool) (b : Belt) : Belt :=
  { b with pos := b.pos + 1, acc := if gateRuns then bump Config.maxAccumulator b.acc else b.acc }

/-- ENC takes a level (R1). -/
def encTakes (gateRuns level : Bool) (b : Belt) : Belt :=
  if level = b.encRef then b
  else if counted b.edgeSelect level then { countEvent gateRuns b with encRef := level }
  else { b with encRef := level }

/-! ### The gate -/

/-- The belt state of a speed (R11, R12). -/
def beltStateOf (speed : Nat) : BeltState := if speed = 0 then .stopped else .running

/-- The expiry of a gate: S takes the accumulator, the next gate starts, and a change of the belt state is raised with the S
before or the new S (R9, R11, R12). -/
def gateEnds (s : State) : State :=
  let t := { s with belt := { s.belt with
    speed := s.belt.acc, acc := 0, timer := 0, state := beltStateOf s.belt.acc } }
  match s.belt.state, beltStateOf s.belt.acc with
  | .running, .stopped => raise .beltStopped ⟨0, 0, 0, valueOf s.belt.speed, s.belt.pos⟩ t
  | .stopped, .running => raise .beltRunning ⟨0, 0, 0, valueOf s.belt.acc, s.belt.pos⟩ t
  | .running, .running | .stopped, .stopped => t

/-- The end of a gate; no gate runs while RESET_N is low (R4). -/
def gateOver (s : State) : State := if s.resetLow then s else gateEnds s

end Sys2Proof.Machine
end

