-- ==== Sys2Proof/Machine/Resets.lean ====
section
/-! DEFINITION. Resets: what each block keeps and loses at a node reset (R14, R27, R49, R69, R91, R113, R134, R144), the node reset
from the ask (R157, R166) and from RESET_N (R158, R170), and power-on. -/

namespace Sys2Proof.Machine

/-- The button state of a sample of REL_BTN, which is active when low (R136). -/
def sampledButton (level : Bool) : ButtonState := if level then .armed else .spent

/-- The link state of a level of LOS (R145). -/
def linkOfLos (level : Bool) : LinkState := if level then .down else .up

/-- The Belt Counter at a node reset: the gate starts anew, the rest is kept (R14). -/
def resetBelt (b : Belt) : Belt := { b with acc := 0, timer := 0 }

/-- The Tracking Unit at a node reset (R49). -/
def resetTracking (k : Tracking) : Tracking := { k with queue := [], headDeadline := none }

/-- The Admission Unit at a node reset (R91). -/
def resetAdmission (a : Admission) : Admission := { a with table := [] }

/-- The Lane Controller at a node reset, before its rescan (R134). -/
def resetLane (l : Lane) : Lane :=
  { stopTimers l with inbound := [], state := if l.state = .jammed then .running else l.state }

/-- The Counter Interface at a node reset, with a sample of REL_BTN and the lane's release mode; the lamp is evaluated after
the rescan (R144). -/
def resetCounter (mode : ReleaseMode) (button : Bool) : Counter :=
  { release := .idle, mode := mode, group := none, count := 0, pressWaits := false, button := sampledButton button,
    buttonTimer := none, waitTimer := none, readyLit := false }

/-- Every block but the Line Port and the Report Unit takes the node reset; the Route Plan keeps all its state (R69). -/
def resetBlocks (s : State) : State :=
  rescanInPlace { s with
    belt := resetBelt s.belt
    eye := sampledEye s.belt.pos s.pins.eye s.eye
    tracking := resetTracking s.tracking
    admission := resetAdmission s.admission
    diverter := homeCheck s.diverter
    lane := resetLane s.lane
    counter := resetCounter s.lane.mode s.pins.relBtn }

/-- The Report Unit at a node reset: flags and REPORTS_LOST clear, the enables kept (R166, R170). -/
def resetReport (cause : ResetCause) (r : Report) : Report := { r with flags := 0, lost := false, cause := cause }

/-- A NODE RESET ask is taken (R157, R166): its answer, if it has one, is the first local frame after the reset, and what
the reset brings about comes after it. -/
def takeNodeReset (answer : Option Frame) (s : State) : State :=
  let t := { s with
    report := resetReport .nodeReset s.report
    line := { s.line with localQueue := [], credit := 0 } }
  match answer with
  | some f => resetBlocks (queueAnswer f t)
  | none => resetBlocks t

/-- RESET_N goes low (R158): the transmitter is cut off. What the blocks hold is lost when the node reset is taken. -/
def pinAsserted (s : State) : State :=
  if s.resetLow then s else { s with resetLow := true, line := { s.line with sending := none } }

/-- The Line Port when RESET_N returns high, but for the link state (R158). -/
def resetLine (l : LinePort) : LinePort :=
  { l with localQueue := [], credit := 0, sending := none, receiverReady := false }

/-- The LINK_CHANGE note of a link state (R145). -/
def linkNote (link : LinkState) (s : State) : NoteBody := ⟨0, 0, link.code, valueOf s.line.errors, s.belt.pos⟩

/-- The link state takes the level of LOS, with LINK_CHANGE on a change (R145). -/
def followLos (s : State) : State :=
  let link := linkOfLos s.pins.los
  if link = s.line.link then s
  else raise .linkChange (linkNote link s) { s with line := { s.line with link := link } }

/-- RESET_N returns high (R158, R170): the node reset is taken. LINK_CHANGE comes before an ORDER_READY of the rescan: DESIGN CHOICE (log
entry 39). -/
def pinReleased (s : State) : State :=
  if s.resetLow then
    let t := followLos { s with
      resetLow := false, report := resetReport .resetPin s.report, line := resetLine s.line }
    resetBlocks { t with line := arbitrate t.line }
  else s

/-- The node with its supply just applied and its inputs sampled, before the rescan of the lane (R14, R27, R48, R68, R91,
R112, R133, R144, R156, R170). -/
def poweredOn (enc : Bool) (levels : InputLevels) (pending : List Instr) : State :=
  let r := State.reset
  { r with
    belt := { r.belt with encRef := enc }
    eye := sampledEye 0 levels.eye r.eye
    counter := { r.counter with button := sampledButton levels.relBtn }
    line := { r.line with link := linkOfLos levels.los }
    pins := levels
    pending := pending }

/-- Supply is applied: every setting and every state is loaded, and the lane is rescanned with anonymous records (R133). -/
def powerUp (enc : Bool) (levels : InputLevels) (s : State) : State :=
  rescanInPlace (poweredOn enc levels s.pending)

end Sys2Proof.Machine
end

