-- ==== Sys2Proof/Machine/Settings.lean ====
section
/-! DEFINITION. The setting asks: SET GEOMETRY (R92), SET LINE (R13, R26, R46, R90, R164), SET LANE (R131, R132),
SET REPORTS (R168) and CLEAR FLAGS (R169). -/

namespace Sys2Proof.Machine

/-! ### SET GEOMETRY -/

/-- The descriptor of a SET GEOMETRY ask after clamping (R92). -/
def geometryOf (fs : List Byte) : Geometry :=
  { eyeToPaddle := clamp 0 4095 (field2 fs 1), throwTime := clamp 1 255 (field1 fs 3), throwFloor := field1 fs 4,
    margin := field1 fs 5, returnTime := clamp 1 255 (field1 fs 6), returnFloor := field1 fs 7, grace := field1 fs 8,
    holdDuty := clamp 1 16 (field1 fs 9) }

/-- The descriptor in force with its format version, in the order of the ask (Table 10-1). -/
def geometryBytes (g : Geometry) : List Byte :=
  bytes1 Config.descriptorFormat ++ bytes2 g.eyeToPaddle ++ bytes1 g.throwTime ++ bytes1 g.throwFloor ++ bytes1 g.margin
    ++ bytes1 g.returnTime ++ bytes1 g.returnFloor ++ bytes1 g.grace ++ bytes1 g.holdDuty

/-- SET GEOMETRY: the descriptor is replaced as one whole (R92). -/
def takeGeometry (fs : List Byte) (d : Diverter) : Diverter × Reply :=
  if field1 fs 0 = Config.descriptorFormat then
    let g := geometryOf fs
    ({ d with geometry := g }, okay (geometryBytes g != fs) (geometryBytes g))
  else (d, refusal .badFormat)

/-! ### SET LINE -/

/-- The belt settings of an applied SET LINE; a change of G abandons the gate in progress and starts a new one (R2, R10). -/
def lineBelt (edge : EdgeSelect) (gate : GateLength) (b : Belt) : Belt :=
  if gate = b.gate then { b with edgeSelect := edge }
  else { b with edgeSelect := edge, gate := gate, acc := 0, timer := 0 }

/-- The eye settings of an applied SET LINE after clamping (R26). -/
def lineEye (fs : List Byte) (polarity : EyePolarity) (e : Eye) : Eye :=
  { e with
    polarity := polarity
    debounce := clamp 1 63 (field1 fs 3)
    maxLength := clamp 16 4095 (field2 fs 4)
    nominal := #v[clamp 1 4095 (field2 fs 6), clamp 1 4095 (field2 fs 8), clamp 1 4095 (field2 fs 10),
                  clamp 1 4095 (field2 fs 12)]
    tolerance := clamp 0 1023 (field2 fs 14) }

/-- The tracking settings of an applied SET LINE after clamping (R46). -/
def lineTracking (fs : List Byte) (k : Tracking) : Tracking :=
  { k with
    upstream := clamp 1 65535 (field2 fs 16)
    early := clamp 0 4095 (field2 fs 18)
    late := clamp 0 4095 (field2 fs 20) }

/-- The admission settings of an applied SET LINE after clamping (R90). -/
def lineAdmission (fs : List Byte) (a : Admission) : Admission :=
  { a with refusalLimit := clamp 1 15 (field1 fs 22), span := clamp 1 8388607 (field3 fs 23) }

/-- The settings of SET LINE in force, 26 bytes in the order of the ask (R164). -/
def lineBytes (s : State) : List Byte :=
  bytes1 s.belt.edgeSelect.code ++ bytes1 s.belt.gate.code ++ bytes1 s.eye.polarity.code ++ bytes1 s.eye.debounce
    ++ bytes2 s.eye.maxLength ++ s.eye.nominal.toList.flatMap bytes2 ++ bytes2 s.eye.tolerance
    ++ bytes2 s.tracking.upstream ++ bytes2 s.tracking.early ++ bytes2 s.tracking.late
    ++ bytes1 s.admission.refusalLimit ++ bytes3 s.admission.span

/-- The settings of an applied SET LINE, all of them at once (R160). -/
def lineSettings (fs : List Byte) (edge : EdgeSelect) (gate : GateLength) (polarity : EyePolarity) (s : State) : State :=
  { s with
    belt := lineBelt edge gate s.belt
    eye := lineEye fs polarity s.eye
    tracking := lineTracking fs s.tracking
    admission := lineAdmission fs s.admission }

/-- SET LINE: refused whole for an unknown code, applied whole otherwise; a change of the polarity then reads the eye anew
(R13, R26, R164). The CLAMPED mark says that the settings applied are not those sent. -/
def takeLine (fs : List Byte) (s : State) : State × Reply :=
  match edgeOfCode (field1 fs 0), gateOfCode (field1 fs 1), polarityOfCode (field1 fs 2) with
  | some edge, some gate, some polarity =>
    let t := lineSettings fs edge gate polarity s
    (if polarity = s.eye.polarity then t else polarityChanged t, okay (lineBytes t != fs) (lineBytes t))
  | _, _, _ => (s, refusal .badValue)

/-! ### SET LANE -/

/-- The lane settings of an applied SET LANE after clamping (R131). -/
def laneSettings (fs : List Byte) (mode : ReleaseMode) (polarity : EyePolarity) (l : Lane) : Lane :=
  { l with
    zoneCount := field1 fs 0
    accepted := BitVec.ofNat 4 (field1 fs 1)
    mode := mode
    transferLimit := clamp 10 500 (field2 fs 3)
    dischargeLimit := clamp 10 500 (field2 fs 5)
    entryDistance := clamp 1 4095 (field2 fs 7)
    polarity := polarity }

/-- The lane settings in force, 10 bytes in the order of the ask (Table 10-1). -/
def laneBytes (l : Lane) : List Byte :=
  bytes1 l.zoneCount ++ bytes1 l.accepted.toNat ++ bytes1 l.mode.code ++ bytes2 l.transferLimit
    ++ bytes2 l.dischargeLimit ++ bytes2 l.entryDistance ++ bytes1 l.polarity.code

/-- A new Z makes zones 1 to Z the lane, all of them EMPTY (R131). -/
def newZoneCount (z : Nat) (l : Lane) : Lane :=
  if l.zoneCount = z then l else { l with zones := Vector.replicate 8 emptyZone, discharge := none, lateTimeout := false }

/-- Whether the structure of a SET LANE is right: Z from 2 to 8, a set of classes 0 to 3 that is not empty (R131). -/
def laneStructure (fs : List Byte) : Bool :=
  2 ≤ field1 fs 0 && field1 fs 0 ≤ 8 && 1 ≤ field1 fs 1 && field1 fs 1 ≤ 15

/-- Whether the ask changes Z or the accepted classes while a zone or the inbound list holds a record (R131). -/
def laneBusy (fs : List Byte) (l : Lane) : Bool :=
  (field1 fs 0 != l.zoneCount || field1 fs 1 != l.accepted.toNat) && (held l != 0 || !l.inbound.isEmpty)

/-- The lane eye polarity has changed in RUNNING or PAUSED (R132): the timers stop, a discharge under way is cancelled as by
a jam, and the lane is rescanned. -/
def lanePolarityChanged (s : State) : State :=
  rescanInPlace { s with
    lane := stopTimers s.lane
    counter := if s.counter.release = .discharging then quietEnd s.counter else s.counter }

/-- The effect of an applied SET LANE (R131, R132). -/
def applyLane (fs : List Byte) (mode : ReleaseMode) (polarity : EyePolarity) (s : State) : State :=
  let t := { s with lane := laneSettings fs mode polarity (newZoneCount (field1 fs 0) s.lane) }
  if polarity = s.lane.polarity ∨ s.lane.state = .jammed then settleLane (evalReady (trim t))
  else lanePolarityChanged t

/-- SET LANE: structure, state, clamping (R131). -/
def takeLane (fs : List Byte) (s : State) : State × Reply :=
  match modeOfCode (field1 fs 2), polarityOfCode (field1 fs 9) with
  | some mode, some polarity =>
    if !laneStructure fs then (s, refusal .badValue)
    else if laneBusy fs s.lane then (s, refusal .badState)
    else
      let sent := laneBytes (laneSettings fs mode polarity s.lane)
      (applyLane fs mode polarity s, okay (sent != fs) sent)
  | _, _ => (s, refusal .badValue)

/-! ### SET REPORTS and CLEAR FLAGS -/

/-- Whether a set of three bytes has no bit above kind 21 (R168). -/
def kindsOk (n : Nat) : Bool := decide (n < 2097152)

/-- SET REPORTS replaces the global enable and all kind enables (R168). -/
def takeReports (fs : List Byte) (r : Report) : Report × Reply :=
  if field1 fs 0 ≤ 1 ∧ kindsOk (field3 fs 1) = true then
    let t := { r with globalEnable := field1 fs 0 == 1, enables := BitVec.ofNat 21 (field3 fs 1) }
    (t, okay false (bytesBool t.globalEnable ++ setBytes t.enables))
  else (r, refusal .badValue)

/-- CLEAR FLAGS clears the flags named, and REPORTS_LOST and the line error count as the extra-clears byte names (R169). -/
def takeClearFlags (fs : List Byte) (s : State) : State × Reply :=
  if kindsOk (field3 fs 0) = true ∧ field1 fs 3 ≤ 3 then
    let extra := field1 fs 3
    let report := { s.report with
      flags := s.report.flags &&& ~~~(BitVec.ofNat 21 (field3 fs 0))
      lost := s.report.lost && !(extra.testBit 0) }
    let line := { s.line with errors := if extra.testBit 1 then 0 else s.line.errors }
    ({ s with report := report, line := line },
     okay false (setBytes report.flags ++ bytesBool report.lost ++ bytes2 line.errors))
  else (s, refusal .badValue)

end Sys2Proof.Machine
end

