-- ==== Sys2Proof/Machine/Asks.lean ====
section
/-! DEFINITION. The Request Unit (chapter 10): what each ask does to the block it names and what its answer says (R160), and the
arrival of an ask at the node (R148, R150). -/

namespace Sys2Proof.Machine

/-- A plan ask works on the Route Plan alone. -/
def onPlan (f : RoutePlan → RoutePlan × Reply) (s : State) : State × Reply :=
  ({ s with plan := (f s.plan).1 }, (f s.plan).2)

/-- CLEAR FAULT at the diverter: in FAULT a home check starts (R109). -/
def clearDiverter (s : State) : State :=
  if s.diverter.state = .fault then { s with diverter := homeCheck s.diverter } else s

/-- CLEAR FAULT at the lane: in JAMMED the lane is rescanned and set RUNNING (R129). -/
def clearLane (s : State) : State := if s.lane.state = .jammed then rescanToRunning s else s

/-- CLEAR FAULT: blocks 1 the diverter, 2 the lane, 3 both (R165). -/
def takeClearFault (fs : List Byte) (s : State) : State × Reply :=
  let blocks := field1 fs 0
  if 1 ≤ blocks ∧ blocks ≤ 3 then
    let t := if blocks.testBit 0 then clearDiverter s else s
    let u := if blocks.testBit 1 then clearLane t else t
    (u, okay false (bytes1 u.diverter.state.code ++ bytes1 u.lane.state.code))
  else (s, refusal .badValue)

/-- PAUSE LANE: RUNNING becomes PAUSED (R130), and a release that is WAITING ends (R141). -/
def takePause (s : State) : State × Reply :=
  match s.lane.state with
  | .jammed => (s, refusal .badState)
  | .paused => (s, okay false (bytes1 LaneState.paused.code))
  | .running =>
    (evalReady { s with lane := { s.lane with state := .paused }, counter := pauseTaken s.counter },
     okay false (bytes1 LaneState.paused.code))

/-- RESUME LANE: PAUSED becomes RUNNING (R130). -/
def takeResume (s : State) : State × Reply :=
  match s.lane.state with
  | .jammed => (s, refusal .badState)
  | .running => (s, okay false (bytes1 LaneState.running.code))
  | .paused =>
    (evalReady { s with lane := { s.lane with state := .running } }, okay false (bytes1 LaneState.running.code))

/-- The outcome and reason of a RELEASE answer: 0 STARTED, 1 PENDING, 2 IGNORED, 3 REFUSED (R165). -/
def releaseAnswer (s : State) : Nat × Nat :=
  match s.counter.release with
  | .idle =>
    match requestRefusal s.lane with
    | some r => (3, r.code)
    | none => (0, 0)
  | .discharging | .waiting => if s.counter.pressWaits then (2, 0) else (1, 0)

/-- RELEASE: a release request with source 1 (R165). -/
def takeReleaseAsk (s : State) : State × Reply :=
  (settleLane (releaseRequest 1 s), okay false (bytes1 (releaseAnswer s).1 ++ bytes1 (releaseAnswer s).2))

/-- What an ask of a right length does, and what its answer says. NODE RESET, whose answer goes first, is taken apart. -/
def askEffect (c : AskCode) (fs : List Byte) (s : State) : State × Reply :=
  match c with
  | .readStatus => (s, okay false (statusRecord s))
  | .readIdentity => (s, okay false identityRecord)
  | .readTracking => (s, trackingReply fs s.tracking)
  | .readLane => (s, laneReply fs s.lane)
  | .readReservations => (s, reservationsReply s.admission)
  | .setWindow => onPlan (planSetWindow fs) s
  | .writeEntries => onPlan (planWriteEntries fs) s
  | .continueEntries => onPlan (planContinueEntries fs) s
  | .readEntries => onPlan (planReadEntries fs) s
  | .continueRead => onPlan (planContinueRead fs) s
  | .swapPlan => onPlan planSwap s
  | .copyPlan => onPlan planCopy s
  | .setGeometry => ({ s with diverter := (takeGeometry fs s.diverter).1 }, (takeGeometry fs s.diverter).2)
  | .setLine => takeLine fs s
  | .setLane => takeLane fs s
  | .setReports => ({ s with report := (takeReports fs s.report).1 }, (takeReports fs s.report).2)
  | .clearFlags => takeClearFlags fs s
  | .clearFault => takeClearFault fs s
  | .pauseLane => takePause s
  | .resumeLane => takeResume s
  | .release => takeReleaseAsk s
  | .nodeReset => (takeNodeReset none s, okay false [])

/-- An ask addressed to the node alone is carried out and answered (R160). -/
def answeredAsk (askTag : Byte) (c : AskCode) (fs : List Byte) (s : State) : State :=
  if !c.lengthOk fs.length then queueAnswer (answerFrame askTag c.code (refusal .badLength) s) s
  else if c = .nodeReset then takeNodeReset (some (answerFrame askTag c.code (okay false []) s)) s
  else
    let e := askEffect c fs s
    queueAnswer (answerFrame askTag c.code e.2 e.1) e.1

/-- An ask that Table 9-9 does not have is answered UNKNOWN_ASK, and one without a code BAD_LENGTH with code 00h (R160). -/
def answeredUnknown (askTag : Byte) (payload : List Byte) (s : State) : State :=
  match payload with
  | [] => queueAnswer (answerFrame askTag 0 (refusal .badLength) s) s
  | b :: _ => queueAnswer (answerFrame askTag b (refusal .unknownAsk) s) s

/-- A broadcast ask is acted on when its code is that of a broadcast ask and its length is right (R150). -/
def broadcastEffect (c : AskCode) (fs : List Byte) (s : State) : State :=
  if c.broadcast && c.lengthOk fs.length then (askEffect c fs s).1 else s

/-- The ask code and the fields of an ASK payload, if Table 9-9 has the code. -/
def askOf (payload : List Byte) : Option (AskCode × List Byte) :=
  match payload with
  | [] => none
  | b :: fs => (askOfByte b).map fun c => (c, fs)

/-- The ring position's byte names this node, which is not unnumbered (R148). -/
def addressed (target : Byte) (s : State) : Bool := s.line.position != 0 && target == positionByte s.line

/-- An ASK frame arrives (R148, R150): target 63 is acted on when it is a broadcast ask, and forwarded; the node's own
position is carried out and answered; any other target is forwarded. -/
def askArrives (f : LineFrame) (s : State) : State :=
  if f.target = 63 then
    match askOf f.payload with
    | some (c, fs) => forwardFrame (ofKind .ask f) (broadcastEffect c fs s)
    | none => forwardFrame (ofKind .ask f) s
  else if addressed f.target s then
    match askOf f.payload with
    | some (c, fs) => answeredAsk f.tag c fs s
    | none => answeredUnknown f.tag f.payload s
  else forwardFrame (ofKind .ask f) s

end Sys2Proof.Machine
end

