-- ==== Sys2Proof/Machine/Receive.lean ====
section
/-! DEFINITION. The receiver of the Line Port: frames by kind (R148), TOTE frames (R30), NUMBER frames (R149), frames that fail a
check (R147), and the link (R145). -/

namespace Sys2Proof.Machine

/-- A complete frame that fails a receive check is discarded and counted (R147). -/
def badFrame (s : State) : State := { s with line := countError s.line }

/-- A TOTE frame is consumed by the Tracking Unit; one whose length is not 9 is discarded and counted (R30, R147). -/
def toteArrives (f : LineFrame) (s : State) : State :=
  if f.payload.length = 9 then takeTote (normalise f.source f.payload) s else badFrame s

/-- The NUMBER frame that a node builds: v + 1, or 63 (R149). -/
def numberOut (v : Nat) (s : State) : Frame :=
  { kind := .number, target := 0, source := positionByte s.line, tag := 0, payload := bytes1 (min 63 (v + 1)) }

/-- The ring position of a NUMBER value: 1 to 62, and 0 for 63 (R149). -/
def positionOf (v : Nat) : Fin 63 := Fin.ofNat 63 v

/-- A NUMBER frame sets the ring position and is sent on with the next value; a bad one is refused and counted (R149). -/
def numberArrives (f : LineFrame) (s : State) : State :=
  let v := field1 f.payload 0
  if f.payload.length = 1 ∧ 1 ≤ v ∧ v ≤ 63 then
    let t := { s with line := { s.line with position := positionOf v } }
    forwardFrame (numberOut v t) t
  else badFrame s

/-- A valid frame is handled by its kind (R148); a payload over 32 bytes is no valid frame (R147). -/
def frameArrives (f : Frame) (s : State) : State :=
  let body : LineFrame := ⟨f.target, f.source, f.tag, f.payload⟩
  if Config.maxPayload < f.payload.length then badFrame s
  else
    match f.kind with
    | .number => numberArrives body s
    | .tote => toteArrives body s
    | .ask => askArrives body s
    | .answer | .note => forwardFrame f s

/-- Whether the receiver takes frames: the link UP, the idle wait over, RESET_N high (R145, R158). -/
def takesFrames (s : State) : Bool := !s.resetLow && s.line.link == .up && s.line.receiverReady

/-- A frame at the receiver: lost, uncounted, when the receiver takes none (R145, R158). -/
def received (f : Frame) (s : State) : State := if takesFrames s then frameArrives f s else s

/-- A complete frame at the receiver: counted when its bytes fail a check, and handled as the frame they hold otherwise (R146, R147).
Levels without a start bit are no frame. -/
def receivedRaw (raw : RawFrame) (s : State) : State :=
  if takesFrames s && hasStart raw then
    match receiveCheck (gather raw) with
    | some f => frameArrives f s
    | none => badFrame s
  else s

/-- LOS changes (R145): a frame partly received at a loss of the signal is counted once, the link state follows with
LINK_CHANGE, and the receiver waits for idle before it takes a frame again. While RESET_N is low only the pin changes. -/
def losTakes (level partly : Bool) (s : State) : State :=
  let pins := { s.pins with los := level }
  if s.resetLow || linkOfLos level == s.line.link then { s with pins := pins }
  else
    let line := if level && partly && takesFrames s then countError s.line else s.line
    followLos { s with pins := pins, line := { line with receiverReady := false } }

/-- The receiver has seen 16 bit times of idle (R145). -/
def idleSeen (s : State) : State :=
  if !s.resetLow && s.line.link == .up then { s with line := { s.line with receiverReady := true } } else s

/-- The transmitter is free and the arbiter picks the next frame (R154). -/
def transmitterIdle (s : State) : State :=
  if s.resetLow then s else { s with line := arbitrate { s.line with sending := none } }

end Sys2Proof.Machine
end

