-- ==== Sys2Proof/Machine/AskCommands.lean ====
section
/-! DEFINITION. The asks of Table 9-9, one meaning each: the ASK frame with the command's code and fields arrives at the receiver. -/

namespace Sys2Proof.Machine

/-- READ_STATUS (R161). -/
def execReadStatus (ask : Ask) (s : State) : StepResult :=
  .next (received (ofKind .ask (askFrame .readStatus ask)) (settle s))

/-- READ_IDENTITY (R161). -/
def execReadIdentity (ask : Ask) (s : State) : StepResult :=
  .next (received (ofKind .ask (askFrame .readIdentity ask)) (settle s))

/-- READ_TRACKING (R47, R162). -/
def execReadTracking (ask : Ask) (s : State) : StepResult :=
  .next (received (ofKind .ask (askFrame .readTracking ask)) (settle s))

/-- READ_LANE (R163). -/
def execReadLane (ask : Ask) (s : State) : StepResult :=
  .next (received (ofKind .ask (askFrame .readLane ask)) (settle s))

/-- READ_RESERVATIONS (R84, R163). -/
def execReadReservations (ask : Ask) (s : State) : StepResult :=
  .next (received (ofKind .ask (askFrame .readReservations ask)) (settle s))

/-- SET_WINDOW (R52, R54). -/
def execSetWindow (ask : Ask) (s : State) : StepResult :=
  .next (received (ofKind .ask (askFrame .setWindow ask)) (settle s))

/-- WRITE_ENTRIES (R55, R56, R59). -/
def execWriteEntries (ask : Ask) (s : State) : StepResult :=
  .next (received (ofKind .ask (askFrame .writeEntries ask)) (settle s))

/-- CONTINUE_ENTRIES (R57, R59). -/
def execContinueEntries (ask : Ask) (s : State) : StepResult :=
  .next (received (ofKind .ask (askFrame .continueEntries ask)) (settle s))

/-- READ_ENTRIES (R60, R61). -/
def execReadEntries (ask : Ask) (s : State) : StepResult :=
  .next (received (ofKind .ask (askFrame .readEntries ask)) (settle s))

/-- CONTINUE_READ (R60, R62). -/
def execContinueRead (ask : Ask) (s : State) : StepResult :=
  .next (received (ofKind .ask (askFrame .continueRead ask)) (settle s))

/-- SWAP_PLAN (R63, R66). -/
def execSwapPlan (ask : Ask) (s : State) : StepResult :=
  .next (received (ofKind .ask (askFrame .swapPlan ask)) (settle s))

/-- COPY_PLAN (R65, R66). -/
def execCopyPlan (ask : Ask) (s : State) : StepResult :=
  .next (received (ofKind .ask (askFrame .copyPlan ask)) (settle s))

/-- SET_GEOMETRY (R92). -/
def execSetGeometry (ask : Ask) (s : State) : StepResult :=
  .next (received (ofKind .ask (askFrame .setGeometry ask)) (settle s))

/-- SET_LINE (R164). -/
def execSetLine (ask : Ask) (s : State) : StepResult :=
  .next (received (ofKind .ask (askFrame .setLine ask)) (settle s))

/-- SET_LANE (R131, R132). -/
def execSetLane (ask : Ask) (s : State) : StepResult :=
  .next (received (ofKind .ask (askFrame .setLane ask)) (settle s))

/-- SET_REPORTS (R168). -/
def execSetReports (ask : Ask) (s : State) : StepResult :=
  .next (received (ofKind .ask (askFrame .setReports ask)) (settle s))

/-- CLEAR_FLAGS (R169). -/
def execClearFlags (ask : Ask) (s : State) : StepResult :=
  .next (received (ofKind .ask (askFrame .clearFlags ask)) (settle s))

/-- CLEAR_FAULT (R165). -/
def execClearFault (ask : Ask) (s : State) : StepResult :=
  .next (received (ofKind .ask (askFrame .clearFault ask)) (settle s))

/-- PAUSE_LANE (R130, R141). -/
def execPauseLane (ask : Ask) (s : State) : StepResult :=
  .next (received (ofKind .ask (askFrame .pauseLane ask)) (settle s))

/-- RESUME_LANE (R130). -/
def execResumeLane (ask : Ask) (s : State) : StepResult :=
  .next (received (ofKind .ask (askFrame .resumeLane ask)) (settle s))

/-- RELEASE (R137, R138, R165). -/
def execRelease (ask : Ask) (s : State) : StepResult :=
  .next (received (ofKind .ask (askFrame .release ask)) (settle s))

/-- NODE_RESET (R157, R166). -/
def execNodeReset (ask : Ask) (s : State) : StepResult :=
  .next (received (ofKind .ask (askFrame .nodeReset ask)) (settle s))

end Sys2Proof.Machine
end

