-- ==== Sys2Proof/Machine/Clock.lean ====
section
/-! DEFINITION. The millisecond tick (section 0.6.3): what an empty command queue does (log entries 1 and 2). The ends of the
timers are commands of their own. -/

namespace Sys2Proof.Machine

/-- One more millisecond of a lane timer. -/
def Timer.next (t : Timer) : Timer := { t with elapsed := t.elapsed + 1 }

/-- Whether some running timer has run its time, so that its end is the next thing to happen: the gate, the phase, a
transfer, the discharge, the button or the WAIT lamp. -/
def someTimerOut (s : State) : Bool :=
  decide (s.belt.gate.ms ≤ s.belt.timer)
  || (match s.diverter.phase with | some p => decide (p.length ≤ p.elapsed) | none => false)
  || s.lane.zones.toList.any (fun z => timerOut z.timer)
  || timerOut s.lane.discharge
  || (match s.counter.buttonTimer with | some n => decide (Config.pressTime ≤ n) | none => false)
  || (match s.counter.waitTimer with | some n => decide (Config.waitLampTime ≤ n) | none => false)

/-- One millisecond: every running timer counts, and in HOLDING a new drive period takes the hold duty in force (R92,
R95). A timeout that came together with a completion belongs to the millisecond before (log entry 38). -/
def tickTimers (s : State) : State :=
  { s with
    belt := { s.belt with timer := s.belt.timer + 1 }
    diverter := { s.diverter with
      phase := s.diverter.phase.map fun p => { p with elapsed := p.elapsed + 1 }
      duty := if s.diverter.state = .holding then s.diverter.geometry.holdDuty else s.diverter.duty }
    lane := { s.lane with
      zones := s.lane.zones.map fun z => { z with timer := z.timer.map Timer.next }
      discharge := s.lane.discharge.map Timer.next
      lateTimeout := false }
    counter := { s.counter with
      buttonTimer := s.counter.buttonTimer.map (· + 1)
      waitTimer := s.counter.waitTimer.map (· + 1) } }

/-- The millisecond tick: nothing while RESET_N is low (no gate and no timer runs), nothing while the end of a timer is still
to be taken, and one millisecond on every timer otherwise. -/
def tick (s : State) : State :=
  if s.resetLow then s
  else
    let t := settle s
    if someTimerOut t then t else tickTimers t

end Sys2Proof.Machine
end

