-- ==== Sys2Proof/Machine/EventCommands.lean ====
section
/-! DEFINITION. The commands of the field wiring, the count events and the clock: one meaning each. A command that is not itself
the taking of a position deadline finds the node with every reached deadline taken (`settle`). -/

namespace Sys2Proof.Machine

/-- POWER_ON (R14, R27, R48, R68, R91, R112, R133, R144, R156, R170). -/
def execPowerOn (enc : Bool) (levels : InputLevels) (s : State) : StepResult := .next (powerUp enc levels s)

/-- RESET_PIN_ASSERT (R4, R158). -/
def execResetPinAssert (s : State) : StepResult := .next (pinAsserted (settle s))

/-- RESET_PIN_RELEASE (R14, R27, R49, R91, R113, R134, R144, R158, R170). -/
def execResetPinRelease (s : State) : StepResult := .next (pinReleased s)

/-- ENCODER_EDGE (R1, R3, R4, R8). -/
def execEncoderEdge (level : Bool) (s : State) : StepResult :=
  let t := settle s
  .next { t with belt := encTakes (!t.resetLow) level t.belt }

/-- GATE_EXPIRY (R9, R11, R12). -/
def execGateExpiry (s : State) : StepResult := .next (gateOver (settle s))

/-- EYE_CHANGE (R15 to R19). -/
def execEyeChange (level : Bool) (s : State) : StepResult := .next (eyeTakes level (settle s))

/-- TRAILING_EDGE (R20 to R23). -/
def execTrailingEdge (s : State) : StepResult := .next (takeTrailing s)

/-- BLOCKED_DEADLINE (R24). -/
def execBlockedDeadline (s : State) : StepResult := .next (takeBlocked s)

/-- HEAD_DEADLINE_EXPIRY (R36, R37). -/
def execHeadDeadlineExpiry (s : State) : StepResult := .next (takeHead s)

/-- RESERVATION_EXPIRY (R87). -/
def execReservationExpiry (s : State) : StepResult := .next (takeReservations s)

/-- FIRE_REACHED (R102). -/
def execFireReached (s : State) : StepResult := .next (takeFire s)

/-- THROW_END (R103). -/
def execThrowEnd (home : Bool) (s : State) : StepResult := .next (throwOver home (settle s))

/-- RELEASE_REACHED (R104). -/
def execReleaseReached (s : State) : StepResult := .next (takeRelease s)

/-- RETURN_END (R105, R106). -/
def execReturnEnd (home : Bool) (s : State) : StepResult := .next (returnOver home (settle s))

/-- HOME_ACTIVE (R105, R106). -/
def execHomeActive (s : State) : StepResult := .next (homeBecomesActive (settle s))

/-- HOME_WAIT_EXPIRY (R105, R108). -/
def execHomeWaitExpiry (s : State) : StepResult := .next (homeWaitOver (settle s))

/-- ZONE_EYE_CHANGE (R115, R118, R119, R123, R125, R126). -/
def execZoneEyeChange (zone : Fin 8) (level : Bool) (s : State) : StepResult :=
  .next (zoneEyeTakes (zone.val + 1) level (settle s))

/-- TRANSFER_TIMEOUT (R124). -/
def execTransferTimeout (zone : Fin 8) (s : State) : StepResult := .next (transferRunsOut (zone.val + 1) (settle s))

/-- ENTRY_DEADLINE (R120). -/
def execEntryDeadline (s : State) : StepResult := .next (takeEntries s)

/-- DISCHARGE_TIMEOUT (R126). -/
def execDischargeTimeout (s : State) : StepResult := .next (dischargeRunsOut (settle s))

/-- BUTTON_CHANGE (R136). -/
def execButtonChange (level : Bool) (s : State) : StepResult := .next (buttonTakes level (settle s))

/-- BUTTON_PRESS (R136 to R138). -/
def execButtonPress (s : State) : StepResult := .next (pressTaken (settle s))

/-- WAIT_LAMP_EXPIRY (R143). -/
def execWaitLampExpiry (s : State) : StepResult := .next (waitLampOut (settle s))

end Sys2Proof.Machine
end

