-- ==== Sys2Proof/Machine/LineCommands.lean ====
section
/-! DEFINITION. The commands of the ring line: frames, the link and the transmitter, one meaning each. -/

namespace Sys2Proof.Machine

/-- TOTE_FRAME (R30 to R34). -/
def execToteFrame (frame : LineFrame) (s : State) : StepResult := .next (received (ofKind .tote frame) (settle s))

/-- LOS_CHANGE (R145). -/
def execLosChange (level partly : Bool) (s : State) : StepResult := .next (losTakes level partly (settle s))

/-- FRAME_ERROR (R146, R147). -/
def execFrameError (raw : RawFrame) (s : State) : StepResult := .next (receivedRaw raw (settle s))

/-- NUMBER_FRAME (R149). -/
def execNumberFrame (frame : LineFrame) (s : State) : StepResult := .next (received (ofKind .number frame) (settle s))

/-- FORWARD_FRAME (R148, R150, R151). -/
def execForwardFrame (frame : Frame) (s : State) : StepResult := .next (received frame (settle s))

/-- TRANSMITTER_FREE (R154, R155). -/
def execTransmitterFree (s : State) : StepResult := .next (transmitterIdle (settle s))

/-- UNKNOWN_ASK (R160). -/
def execUnknownAsk (frame : LineFrame) (s : State) : StepResult := .next (received (ofKind .ask frame) (settle s))

/-- RECEIVER_IDLE_WAIT_END (R145, R156, R158). -/
def execReceiverIdleWaitEnd (s : State) : StepResult := .next (idleSeen (settle s))

end Sys2Proof.Machine
end

