-- ==== Sys2Proof/Machine/Dispatch.lean ====
section
/-! DEFINITION. The commands and their meanings, in the order of spec/opcode_table.json. -/

namespace Sys2Proof.Machine

def exec (i : Instr) (s : State) : Host.Outcome State Fault Refusal :=
  match i with
  | .powerOn enc levels => Sys2Proof.Machine.execPowerOn enc levels s
  | .resetPinAssert => Sys2Proof.Machine.execResetPinAssert s
  | .resetPinRelease => Sys2Proof.Machine.execResetPinRelease s
  | .encoderEdge level => Sys2Proof.Machine.execEncoderEdge level s
  | .gateExpiry => Sys2Proof.Machine.execGateExpiry s
  | .eyeChange level => Sys2Proof.Machine.execEyeChange level s
  | .trailingEdge => Sys2Proof.Machine.execTrailingEdge s
  | .blockedDeadline => Sys2Proof.Machine.execBlockedDeadline s
  | .toteFrame frame => Sys2Proof.Machine.execToteFrame frame s
  | .headDeadlineExpiry => Sys2Proof.Machine.execHeadDeadlineExpiry s
  | .reservationExpiry => Sys2Proof.Machine.execReservationExpiry s
  | .fireReached => Sys2Proof.Machine.execFireReached s
  | .throwEnd home => Sys2Proof.Machine.execThrowEnd home s
  | .releaseReached => Sys2Proof.Machine.execReleaseReached s
  | .returnEnd home => Sys2Proof.Machine.execReturnEnd home s
  | .homeActive => Sys2Proof.Machine.execHomeActive s
  | .homeWaitExpiry => Sys2Proof.Machine.execHomeWaitExpiry s
  | .zoneEyeChange zone level => Sys2Proof.Machine.execZoneEyeChange zone level s
  | .transferTimeout zone => Sys2Proof.Machine.execTransferTimeout zone s
  | .entryDeadline => Sys2Proof.Machine.execEntryDeadline s
  | .dischargeTimeout => Sys2Proof.Machine.execDischargeTimeout s
  | .buttonChange level => Sys2Proof.Machine.execButtonChange level s
  | .buttonPress => Sys2Proof.Machine.execButtonPress s
  | .waitLampExpiry => Sys2Proof.Machine.execWaitLampExpiry s
  | .losChange level partly => Sys2Proof.Machine.execLosChange level partly s
  | .frameError raw => Sys2Proof.Machine.execFrameError raw s
  | .numberFrame frame => Sys2Proof.Machine.execNumberFrame frame s
  | .forwardFrame frame => Sys2Proof.Machine.execForwardFrame frame s
  | .transmitterFree => Sys2Proof.Machine.execTransmitterFree s
  | .unknownAsk frame => Sys2Proof.Machine.execUnknownAsk frame s
  | .readStatus ask => Sys2Proof.Machine.execReadStatus ask s
  | .readIdentity ask => Sys2Proof.Machine.execReadIdentity ask s
  | .readTracking ask => Sys2Proof.Machine.execReadTracking ask s
  | .readLane ask => Sys2Proof.Machine.execReadLane ask s
  | .readReservations ask => Sys2Proof.Machine.execReadReservations ask s
  | .setWindow ask => Sys2Proof.Machine.execSetWindow ask s
  | .writeEntries ask => Sys2Proof.Machine.execWriteEntries ask s
  | .continueEntries ask => Sys2Proof.Machine.execContinueEntries ask s
  | .readEntries ask => Sys2Proof.Machine.execReadEntries ask s
  | .continueRead ask => Sys2Proof.Machine.execContinueRead ask s
  | .swapPlan ask => Sys2Proof.Machine.execSwapPlan ask s
  | .copyPlan ask => Sys2Proof.Machine.execCopyPlan ask s
  | .setGeometry ask => Sys2Proof.Machine.execSetGeometry ask s
  | .setLine ask => Sys2Proof.Machine.execSetLine ask s
  | .setLane ask => Sys2Proof.Machine.execSetLane ask s
  | .setReports ask => Sys2Proof.Machine.execSetReports ask s
  | .clearFlags ask => Sys2Proof.Machine.execClearFlags ask s
  | .clearFault ask => Sys2Proof.Machine.execClearFault ask s
  | .pauseLane ask => Sys2Proof.Machine.execPauseLane ask s
  | .resumeLane ask => Sys2Proof.Machine.execResumeLane ask s
  | .release ask => Sys2Proof.Machine.execRelease ask s
  | .nodeReset ask => Sys2Proof.Machine.execNodeReset ask s
  | .receiverIdleWaitEnd => Sys2Proof.Machine.execReceiverIdleWaitEnd s

end Sys2Proof.Machine
end

