-- ==== Sys2Proof/Machine/Outputs.lean ====
section
/-! DEFINITION. The output pins as functions of the state (Table 0-5): the diverter drive (R95), the zone motors (R114), the lamps
(R142, R143) and TXD (R154, R158). -/

namespace Sys2Proof.Machine

/-- What DRV_EN does over a drive period of 1 ms: low, high throughout, or high for so many sixteenths (R95). -/
inductive DriveEnable where
  | low
  | high
  | pulsed (sixteenths : Nat)
  deriving DecidableEq, Repr

/-- DRV_EN (R95). -/
def drvEn (s : State) : DriveEnable :=
  if s.resetLow then .low
  else
    match s.diverter.state with
    | .throwing | .returning => .high
    | .holding => if s.diverter.duty = 16 then .high else .pulsed s.diverter.duty
    | .rest | .armed | .fault => .low

/-- DRV_DIR: high is the throw direction (R95). -/
def drvDir (s : State) : Bool :=
  !s.resetLow &&
    match s.diverter.state with
    | .throwing | .holding => true
    | .rest | .armed | .returning | .fault => false

/-- ZMOTk (R114). -/
def zmot (s : State) (k : Nat) : Bool :=
  !s.resetLow && s.lane.state != .jammed && 1 ≤ k && k ≤ s.lane.zoneCount &&
    match (zone s.lane k).state with
    | .filling | .passing => true
    | .empty | .held => false

/-- READY_LAMP (R142, R144). -/
def readyLamp (s : State) : Bool := !s.resetLow && s.counter.readyLit

/-- WAIT_LAMP (R143, R144). -/
def waitLamp (s : State) : Bool := !s.resetLow && s.counter.waitTimer.isSome

/-- The levels that TXD takes, one for each bit time, for the frame that the transmitter sends; none while it is at idle level (R146,
R154, R158). -/
def txd (s : State) : Option (List Bool) :=
  if s.resetLow then none else s.line.sending.map fun f => lineLevels (frameBytes f)

end Sys2Proof.Machine
end

