-- ==== Sys2Proof/Safety.lean ====
section
/-! DEFINITION. What a safe node is: the properties of a state that the manual promises of every node and that every step keeps,
and the conditions under which a command finds the node free to take it. -/

namespace Sys2Proof.Machine

/-! ### Conditions on the node when a command comes -/

/-- RESET_N is high and no position deadline that P has reached is still to be taken. -/
abbrev Calm (s : State) : Prop := s.resetLow = false ∧ anyDue s = false

/-- The node is calm, its link is UP and its receiver has seen its idle: a frame is taken at its arrival (R145). -/
abbrev Listening (s : State) : Prop := Calm s ∧ s.line.link = .up ∧ s.line.receiverReady = true

/-- The ask is addressed to this node alone (R148). -/
abbrev Mine (target : Byte) (s : State) : Prop := s.line.position ≠ 0 ∧ target = positionByte s.line

/-! ### Bounds -/

/-- No queue is longer than the manual's depth and the credit count is at most 3 (R29, R84, R116, R151, R152, R153,
R155). -/
abbrev QueuesBounded (s : State) : Prop :=
  s.tracking.queue.length ≤ 16 ∧ s.admission.table.length ≤ 4 ∧ s.lane.inbound.length ≤ 4 ∧
  s.line.forward.length ≤ 4 ∧ s.line.handOff.length ≤ 4 ∧ s.line.localQueue.length ≤ 8 ∧ s.line.credit ≤ 3

/-- The belt's numbers and settings are in the ranges of Tables 1-1 and 1-2. -/
abbrev BeltInRange (b : Belt) : Prop := b.speed ≤ 4095 ∧ b.acc ≤ 4095

/-- The eye settings are in the ranges of Table 2-1. -/
abbrev EyeInRange (e : Eye) : Prop :=
  (1 ≤ e.debounce ∧ e.debounce ≤ 63) ∧ (16 ≤ e.maxLength ∧ e.maxLength ≤ 4095) ∧
  (∀ c : Fin 4, 1 ≤ e.nominal.get c ∧ e.nominal.get c ≤ 4095) ∧ e.tolerance ≤ 1023

/-- The tracking settings are in the ranges of Table 3-1. -/
abbrev TrackingInRange (k : Tracking) : Prop :=
  (1 ≤ k.upstream ∧ k.upstream ≤ 65535) ∧ k.early ≤ 4095 ∧ k.late ≤ 4095

/-- The admission settings are in the ranges of Table 5-1. -/
abbrev AdmissionInRange (a : Admission) : Prop :=
  (1 ≤ a.refusalLimit ∧ a.refusalLimit ≤ 15) ∧ (1 ≤ a.span ∧ a.span ≤ 8388607)

/-- The geometry descriptor is in the ranges of Table 6-1. -/
abbrev GeometryInRange (g : Geometry) : Prop :=
  g.eyeToPaddle ≤ 4095 ∧ (1 ≤ g.throwTime ∧ g.throwTime ≤ 255) ∧ g.throwFloor ≤ 255 ∧ g.margin ≤ 255 ∧
  (1 ≤ g.returnTime ∧ g.returnTime ≤ 255) ∧ g.returnFloor ≤ 255 ∧ g.grace ≤ 255 ∧
  (1 ≤ g.holdDuty ∧ g.holdDuty ≤ 16)

/-- The lane settings are in the ranges of Table 7-1. -/
abbrev LaneInRange (l : Lane) : Prop :=
  (2 ≤ l.zoneCount ∧ l.zoneCount ≤ 8) ∧ l.accepted ≠ 0 ∧ (10 ≤ l.transferLimit ∧ l.transferLimit ≤ 500) ∧
  (10 ≤ l.dischargeLimit ∧ l.dischargeLimit ≤ 500) ∧ (1 ≤ l.entryDistance ∧ l.entryDistance ≤ 4095)

/-- Every setting and every counter is in its stated range. -/
abbrev InRange (s : State) : Prop :=
  BeltInRange s.belt ∧ EyeInRange s.eye ∧ TrackingInRange s.tracking ∧ AdmissionInRange s.admission ∧
  GeometryInRange s.diverter.geometry ∧ LaneInRange s.lane ∧ s.line.errors ≤ 65535 ∧ s.counter.count ≤ 255

/-! ### Blocks that agree with themselves -/

/-- A cell stands in the window (R53). -/
abbrev InWindow (p : RoutePlan) (c : Cell) : Prop :=
  p.d0 ≤ c.dest ∧ c.dest ≤ p.d1 ∧ p.c0 ≤ c.cls ∧ c.cls ≤ p.c1

/-- The window is not inverted, both cursors stand in it, and a done cursor stands on its last cell (R52, R53). -/
abbrev PlanOrdered (p : RoutePlan) : Prop :=
  InWindow p p.write.cell ∧ InWindow p p.read.cell ∧
  (p.write.done = true → p.write.cell = ⟨p.d1, p.c1⟩) ∧ (p.read.done = true → p.read.cell = ⟨p.d1, p.c1⟩)

/-- The Eye Unit's positions are present exactly as its state says, and its context describes the tote of its lead position
(Tables 2-2 and 2-3). -/
abbrev EyeAgrees (e : Eye) : Prop :=
  (e.clearing.isSome = true ↔ e.state = .clearing) ∧ (e.debounceEnd.isSome = true ↔ e.state = .clearing) ∧
  (e.state = .clear ↔ e.context = .empty) ∧ (e.blockedDeadline.isSome = true → e.state ≠ .clear) ∧
  e.lead = (match e.context with
    | .matched _ lead _ => some lead
    | .anonymous lead _ => some lead
    | .noLead | .empty => none)

/-- The head deadline is the window end of the head record plus one, absent with an empty queue (R35). -/
abbrev HeadWatched (k : Tracking) : Prop := k.headDeadline = headDeadlineOf k.queue

/-- The Diverter Drive's positions, flag and phase are present as its state says (R96, Table 6-2). -/
abbrev DriveAgrees (d : Diverter) : Prop :=
  (d.state = .armed → d.fire.isSome = true) ∧
  (d.fire.isSome = true → d.state = .armed ∨ d.state = .returning) ∧
  (d.release.isSome = true → d.clear.isSome = true) ∧
  (d.clear.isSome = true → d.release.isSome = true ∨ d.flag = true) ∧
  (d.state = .rest ∨ d.state = .fault →
    d.fire = none ∧ d.release = none ∧ d.clear = none ∧ d.flag = false) ∧
  d.phase.map (·.part) = (match d.state with
    | .throwing => some .throwing
    | .returning => if phaseRuns .homeWait d then some .homeWait else some .returning
    | .rest | .armed | .holding | .fault => none)

/-- One zone of a lane (R114, R122, R123, R126): a record in HELD, in PASSING until it has moved on, and none in EMPTY and
FILLING; the mark and the transfer timer in PASSING only; a FILLING zone above 1 exactly while the zone before it passes a
record; zone Z passes its record until its discharge is complete. -/
abbrev ZoneAgrees (l : Lane) (k : Nat) : Prop :=
  let z := zone l k
  (z.state = .held → z.record.isSome = true) ∧
  (z.state = .empty ∨ z.state = .filling → z.record = none) ∧
  (z.partEnded = true → z.state = .passing ∧ z.record.isSome = true) ∧
  (z.timer.isSome = true → z.state = .passing ∧ k < l.zoneCount) ∧
  (2 ≤ k → (z.state = .filling ↔ (zone l (k - 1)).state = .passing ∧ (zone l (k - 1)).record.isSome = true)) ∧
  (k = l.zoneCount → z.state = .passing → z.record.isSome = true)

/-- The zones agree with one another, those above Z are EMPTY, and while the lane is not JAMMED each transfer and the
discharge has its timer (R114, R122, R126). -/
abbrev LaneAgrees (l : Lane) : Prop :=
  (2 ≤ l.zoneCount ∧ l.zoneCount ≤ 8) ∧
  (∀ i : Fin 8, if i.val < l.zoneCount then ZoneAgrees l (i.val + 1) else zone l (i.val + 1) = emptyZone) ∧
  (l.state = .jammed → l.discharge = none ∧ l.lateTimeout = false ∧ ∀ i : Fin 8, (zone l (i.val + 1)).timer = none) ∧
  (l.state ≠ .jammed →
    (l.discharge.isSome = true ↔ (zone l l.zoneCount).state = .passing) ∧
    ∀ i : Fin 8, i.val + 1 < l.zoneCount → (zone l (i.val + 1)).state = .passing →
      (zone l (i.val + 1)).timer.isSome = true)

/-- The Counter Interface agrees with itself and with zone Z (R136, R138, R139, R140, R141). -/
abbrev CounterAgrees (s : State) : Prop :=
  (s.counter.release = .idle → s.counter.group = none ∧ s.counter.count = 0 ∧ s.counter.pressWaits = false) ∧
  (s.counter.release = .waiting → s.counter.group.isSome = true) ∧
  (s.counter.buttonTimer.isSome = true ↔ s.counter.button = .timing) ∧
  (s.counter.release = .discharging ↔
    s.lane.state ≠ .jammed ∧ (zone s.lane s.lane.zoneCount).state = .passing)

/-- The READY lamp is lit exactly when the lane is RUNNING, zone Z is HELD and the front order is complete (R142). -/
abbrev LampTrue (s : State) : Prop := s.counter.readyLit = readyHolds s.lane

/-- The lane has nothing left to do of itself (R117, R122): zone 1 follows the inbound list, and while the lane is not JAMMED no
HELD zone has an EMPTY zone before it. -/
abbrev LaneRests (s : State) : Prop :=
  ((zone s.lane 1).state = .empty → s.lane.inbound = []) ∧
  ((zone s.lane 1).state = .filling → s.lane.inbound ≠ []) ∧
  (s.lane.state ≠ .jammed → ∀ k, k < s.lane.zoneCount → 1 ≤ k →
    ¬ ((zone s.lane k).state = .held ∧ (zone s.lane (k + 1)).state = .empty))

/-! ### Room and reservations -/

/-- The reservation entries are of different orders, none of order 0, each of 1 to 7 zones (R84). -/
abbrev ReservationsRight (a : Admission) : Prop :=
  (a.table.map (·.order)).Nodup ∧ ∀ r ∈ a.table, r.order ≠ 0 ∧ 1 ≤ r.zones ∧ r.zones ≤ 7

/-- held + inbound + reserved is at most Z (R88). -/
abbrev RoomKept (s : State) : Prop := roomSum s ≤ s.lane.zoneCount

/-! ### Totes -/

/-- TOTE fields in the ranges of Table 3-2: what normalisation leaves (R31). -/
abbrev ToteInRange (t : ToteFields) : Prop :=
  1 ≤ t.seq ∧ t.seq ≤ t.count ∧ t.count ≤ 8 ∧ t.refusals ≤ 15

/-- The tote of a context of kind MATCHED (Table 2-3). -/
def contextTote : EyeContext → Option ToteFields
  | .matched t _ _ => some t
  | .anonymous _ _ | .noLead | .empty => none

/-- The TOTE fields that stand anywhere in the node: in the tracking queue, the inbound list, the zones and the tote-at-eye
context (Tables 2-3, 3-2 and 7-3). -/
def totesOf (s : State) : List ToteFields :=
  s.tracking.queue.map (·.tote) ++ s.lane.inbound.map (·.record.tote)
    ++ s.lane.zones.toList.filterMap (fun z => z.record.map (·.tote)) ++ (contextTote s.eye.context).toList

/-- Every record of the node has TOTE fields in their ranges. -/
abbrev TotesInRange (s : State) : Prop := ∀ t ∈ totesOf s, ToteInRange t

/-! ### Asks in claims -/

/-- The command of an ask of Table 9-9. -/
def askCommand : AskCode → Ask → Instr
  | .readStatus => .readStatus | .readIdentity => .readIdentity | .readTracking => .readTracking
  | .readLane => .readLane | .readReservations => .readReservations | .setWindow => .setWindow
  | .writeEntries => .writeEntries | .continueEntries => .continueEntries | .readEntries => .readEntries
  | .continueRead => .continueRead | .swapPlan => .swapPlan | .copyPlan => .copyPlan
  | .setGeometry => .setGeometry | .setLine => .setLine | .setLane => .setLane | .setReports => .setReports
  | .clearFlags => .clearFlags | .clearFault => .clearFault | .pauseLane => .pauseLane | .resumeLane => .resumeLane
  | .release => .release | .nodeReset => .nodeReset

/-- An answer with a result, a CLAMPED mark and answer fields joins the local queue of a state (Table 9-7, R153). -/
def answered (a : Ask) (code : Nat) (result : Nat) (clamped : Bool) (fields : List Nat) (t : State) : State :=
  queueAnswer
    { kind := .answer, target := 0, source := positionByte t.line, tag := a.tag,
      payload := (code :: result :: (if clamped then 1 else 0) :: fields).map (BitVec.ofNat 8) } t

/-- The hand-off frame of a tote with a refusals value (Table 9-6, R82). -/
def handOffOf (t : ToteFields) (refusals : Nat) (s : State) : Frame :=
  { kind := .tote, target := 0, source := positionByte s.line, tag := 0, payload := totePayload t refusals }

/-! ### The walk as a list -/

/-- The cells that the walk takes from a cell on, at most `n` of them (R53). -/
def walkCells (p : RoutePlan) : Nat → Cell → List Cell
  | 0, _ => []
  | n + 1, c => c :: match nextCell p c with
    | some d => walkCells p n d
    | none => []

end Sys2Proof.Machine
end

