-- ==== Sys2Proof/Certificates/Slice0/Obligations.lean ====
section
/-! DEFINITION. The statements about the UG-3140, for the provers. Each says which rules of spec/ it formalises. `Calm s` is a
node out of reset with no reached deadline outstanding; `Listening s` is a calm node whose receiver takes frames; `Mine` is an ask
addressed to the node. -/

section
open Sys2Proof Sys2Proof.Machine

/-! ### Commands and their queue -/

/-- A step takes the command at the front of the queue, with the queue's rest (the model's interface, log entries 1 and 29). -/
def Obligations.StepTakesFrontCommand : Prop :=
  ∀ (c : Instr) (rest : List Instr) (s : State),
    step { s with pending := c :: rest } = exec c { s with pending := rest }

/-- The model's choice (log entry 1): with no command waiting a millisecond passes. Every running timer counts it, and in
HOLDING the new drive period takes the hold duty in force (R92, R95); a timeout that came together with a completion can no longer be
taken (log entry 38); nothing passes while a timer's end is still to be taken or RESET_N is low. -/
def Obligations.EmptyQueueTicks : Prop :=
  (∀ s : State, s.pending = [] → Calm s → someTimerOut s = false →
    step s = .next { s with
      belt := { s.belt with timer := s.belt.timer + 1 }
      diverter := { s.diverter with
        phase := s.diverter.phase.map fun p => { p with elapsed := p.elapsed + 1 }
        duty := if s.diverter.state = .holding then s.diverter.geometry.holdDuty else s.diverter.duty }
      lane := { s.lane with
        zones := s.lane.zones.map fun z => { z with timer := z.timer.map fun t => { t with elapsed := t.elapsed + 1 } }
        discharge := s.lane.discharge.map fun t => { t with elapsed := t.elapsed + 1 }
        lateTimeout := false }
      counter := { s.counter with
        buttonTimer := s.counter.buttonTimer.map fun n => n + 1
        waitTimer := s.counter.waitTimer.map fun n => n + 1 } }) ∧
  (∀ s : State, s.pending = [] → Calm s → someTimerOut s = true → step s = .next s) ∧
  (∀ s : State, s.pending = [] → s.resetLow = true → step s = .next s)

/-! ### The Belt Counter (chapter 1) -/

/-- ENCODER_EDGE (R1, R3, R8): a level other than the reference level becomes it; an edge that the edge select counts moves P
forward by one, from 16,777,215 to 0, and feeds the accumulator up to 4,095 unless RESET_N is low (R4). GATE_EXPIRY (R9, R11, R12):
S takes the accumulator, the next gate starts from 0, and the belt state is STOPPED exactly when S is 0; a change of it raises
BELT_STOPPED with the S before or BELT_RUNNING with the new S, at P. The gate's end is taken whatever its timer has counted, with no
reached deadline outstanding: the model's choice (log entries 2 and 3). -/
def Obligations.EdgesAndGatesAreCounted : Prop :=
  (∀ (level : Bool) (s : State), anyDue s = false →
      exec (.encoderEdge level) s = .next (
        if level = s.belt.encRef then s
        else if (match s.belt.edgeSelect with | .rising => level | .falling => !level | .both => true) then
          { s with belt := { s.belt with
              encRef := level
              pos := s.belt.pos + 1
              acc := if s.resetLow then s.belt.acc else min 4095 (s.belt.acc + 1) } }
        else { s with belt := { s.belt with encRef := level } })) ∧
  (∀ s : State, Calm s →
      let t : State := { s with belt := { s.belt with
        speed := s.belt.acc, acc := 0, timer := 0, state := if s.belt.acc = 0 then .stopped else .running } }
      exec .gateExpiry s = .next (
        if s.belt.acc = 0 ∧ s.belt.state = .running then
          raise .beltStopped ⟨0, 0, 0, BitVec.ofNat 16 s.belt.speed, s.belt.pos⟩ t
        else if s.belt.acc ≠ 0 ∧ s.belt.state = .stopped then
          raise .beltRunning ⟨0, 0, 0, BitVec.ofNat 16 s.belt.acc, s.belt.pos⟩ t
        else t))

/-- Every command of the table completes in every state, since the manual names no event that stops the part, and leaves the queue of
waiting commands to the step. P moves only at ENCODER_EDGE and POWER_ON (R3, R4), and S and the belt state change only at GATE_EXPIRY
and POWER_ON (section 1.6), whatever the other commands do. -/
def Obligations.EveryCommandCompletes : Prop :=
  ∀ (c : Instr) (s : State), ∃ t, exec c s = .next t ∧ t.pending = s.pending ∧
    ((∀ enc levels, c ≠ .powerOn enc levels) →
      ((∀ level, c ≠ .encoderEdge level) → t.belt.pos = s.belt.pos ∧ t.belt.encRef = s.belt.encRef) ∧
      (c ≠ .gateExpiry → t.belt.speed = s.belt.speed ∧ t.belt.state = s.belt.state))

/-! ### Events (section 10.4) -/

/-- Raising an event (R167, R153): its flag alone is set; with both enables on, its note joins the local queue, or with 8
frames there it is dropped and REPORTS_LOST is set; the NOTE frame is that of Table 9-8 with the state of the moment. Nothing
else changes. -/
def Obligations.RaisedEventSetsFlagAndNote : Prop :=
  ∀ (k : NoteKind) (n : NoteBody) (s : State),
    let t := raise k n s
    let on := s.report.globalEnable && inSet k s.report.enables
    let note : Frame :=
      { kind := .note, target := 0, source := BitVec.ofNat 8 s.line.position.val, tag := 0,
        payload := [k.code, n.tag.toNat / 256, n.tag.toNat, n.order.toNat / 256, n.order.toNat, n.detail,
          n.value.toNat / 256, n.value.toNat, n.pos.toNat / 65536, n.pos.toNat / 256, n.pos.toNat,
          s.diverter.state.code * 16 + s.lane.state.code].map (BitVec.ofNat 8) }
    t = { s with report := { s.report with flags := t.report.flags, lost := t.report.lost }, line := t.line } ∧
    (∀ j : NoteKind, inSet j t.report.flags = (inSet j s.report.flags || j == k)) ∧
    (on = false → t.line = s.line ∧ t.report.lost = s.report.lost) ∧
    (on = true → s.line.localQueue.length < 8 →
      t.report.lost = s.report.lost ∧
      t.line = (if s.line.sending.isNone then
          pick { s.line with localQueue := s.line.localQueue ++ [note] }
        else { s.line with localQueue := s.line.localQueue ++ [note] })) ∧
    (on = true → 8 ≤ s.line.localQueue.length → t.line = s.line ∧ t.report.lost = true)

/-! ### The leading edge (chapters 2, 3 and 5) -/

/-- EYE_CHANGE, an unknown tote that is not crowded (R16, R40, R41, R42, R71, R81, R82): with the queue empty, or the lead position
before the head window, UNKNOWN_TOTE is raised, the tote is PASS_UNKNOWN and its hand-off carries the anonymous field set. The
tracking queue is unchanged. The hand-off joins the tail of its queue (R83, R152, R154), from which a free transmitter picks at once;
with 4 frames there it is dropped with LINE_OVERRUN detail HANDOFF at the lead position. -/
def Obligations.UnknownToteIsHandedOn : Prop :=
  ∀ (level : Bool) (s : State), Calm s → s.eye.state = .clear → readsBlocked s.eye.polarity level = true →
    isCrowded s.belt.pos s.diverter = false →
    let p := s.belt.pos
    let seen : State := { s with
      pins := { s.pins with eye := level }
      eye := { s.eye with
        state := .blocked, lead := some p, blockedDeadline := some ⟨plus p s.eye.maxLength, s.eye.maxLength⟩,
        context := .anonymous p .passUnknown } }
    let frame : Frame :=
      { kind := .tote, target := 0, source := positionByte s.line, tag := 0,
        payload := [0, 0, 0, 0, 0xFF, 0, 1, 1, 0] }
    let handed : Frame → Ident → Ident → State → State := fun f tag order u =>
      let l : LinePort := { u.line with handOff := u.line.handOff ++ [f] }
      if u.line.handOff.length < 4 then { u with line := if l.sending.isNone then pick l else l }
      else raise .lineOverrun ⟨tag, order, 1, 0, p⟩ u
    (s.tracking.queue = [] →
      exec (.eyeChange level) s =
        .next (handed frame 0 0 (raise .unknownTote ⟨0, 0, 0, 0, p⟩ seen))) ∧
    (∀ r rest, s.tracking.queue = r :: rest → isBefore p r.windowStart = true →
      exec (.eyeChange level) s =
        .next (handed frame 0 0 (raise .unknownTote
          ⟨r.tote.tag, r.tote.order, 1, BitVec.ofInt 16 (signedDist p r.windowStart), p⟩ seen)))

/-- EYE_CHANGE, a matched tote that stays on the belt (R16, R35, R37, R39, R71, R72, R77, R81, R82, R89): the head leaves the queue, and
with it the run of records that have outlived their windows, each with MISSED_TOTE. A tote that is not crowded is handed on: with the
action PASS its record unchanged and no event; refused, with REFUSED and the detail and value of the test that applied; late, with
PASSED_LATE, its reason and L. The hand-off of the last two carries refusals + 1, at most 15. It joins its queue, or with 4 frames there
is dropped with LINE_OVERRUN detail HANDOFF and the tags of the tote (R83, R152). -/
def Obligations.MatchedToteIsHandedOn : Prop :=
  ∀ (level : Bool) (s : State) (r : TrackRecord) (run left : List TrackRecord),
    Calm s → s.eye.state = .clear → readsBlocked s.eye.polarity level = true →
    s.tracking.queue = r :: (run ++ left) →
    atOrAfter s.belt.pos r.windowStart = true → atOrAfter r.windowEnd s.belt.pos = true →
    (∀ n ∈ run, signedDist s.belt.pos (n.windowEnd + 1) ≤ 0) →
    (∀ n ∈ left.head?, 0 < signedDist s.belt.pos (n.windowEnd + 1)) →
    isCrowded s.belt.pos s.diverter = false →
    let p := s.belt.pos
    let seen : ToteOutcome → State := fun o => raiseAll .missedTote
      (run.mapIdx fun i n => ⟨n.tote.tag, n.tote.order, n.tote.source.toNat, BitVec.ofNat 16 (i + 1), p⟩)
      { s with
        pins := { s.pins with eye := level }
        eye := { s.eye with
          state := .blocked, lead := some p, blockedDeadline := some ⟨plus p s.eye.maxLength, s.eye.maxLength⟩,
          context := .matched r.tote p o }
        tracking := { s.tracking with queue := left, headDeadline := left.head?.map fun n => n.windowEnd + 1 } }
    let handed : Frame → Ident → Ident → State → State := fun f tag order u =>
      let l : LinePort := { u.line with handOff := u.line.handOff ++ [f] }
      if u.line.handOff.length < 4 then { u with line := if l.sending.isNone then pick l else l }
      else raise .lineOverrun ⟨tag, order, 1, 0, p⟩ u
    let offered : Nat → State → StepResult := fun refusals t =>
      .next (handed (handOffOf r.tote refusals s) r.tote.tag r.tote.order t)
    (lookup s.plan r.tote.dest r.tote.cls = .pass →
      exec (.eyeChange level) s = offered r.tote.refusals (seen .pass)) ∧
    (∀ detail value, decision (some r.tote) s = .refused detail value →
      exec (.eyeChange level) s = offered (min (r.tote.refusals + 1) 15)
        (raise .refused ⟨r.tote.tag, r.tote.order, detail, BitVec.ofNat 16 value, p⟩ (seen .refused))) ∧
    (∀ how l, decision (some r.tote) s = .admitted how →
      (verdict p s = .lateLead l → exec (.eyeChange level) s = offered (min (r.tote.refusals + 1) 15)
        (raise .passedLate ⟨r.tote.tag, r.tote.order, 0, BitVec.ofNat 16 l, p⟩ (seen .passedLate))) ∧
      (verdict p s = .lateReturn l → exec (.eyeChange level) s = offered (min (r.tote.refusals + 1) 15)
        (raise .passedLate ⟨r.tote.tag, r.tote.order, 1, BitVec.ofNat 16 l, p⟩ (seen .passedLate))))

/-- EYE_CHANGE, a matched tote that is DIVERTED (R16, R37, R39, R77, R79, R80, R85, R100): the diverter carries out its verdict. From REST
it is ARMED with fire position lead + E_p - L, or throws at once when that is P itself; a join removes release and clear and sets the
flag; a re-throw stores F, removes release, keeps clear and sets the flag. An inbound record with entry deadline lead + E_p + entry
distance is appended; a tote of a reserved order uses one zone of its entry, and a call for a new reservation creates it, newest, with
its expiry at lead + span. No event is raised for the outcome. The lane then follows its inbound list (R117). That the lead is P
itself, so that no expiry is reached when it is set, is the model's choice (log entry 36). -/
def Obligations.DivertIsCommitted : Prop :=
  ∀ (level : Bool) (s : State) (r : TrackRecord) (run left : List TrackRecord) (how : Admit),
    Calm s → s.eye.state = .clear → readsBlocked s.eye.polarity level = true →
    s.tracking.queue = r :: (run ++ left) →
    atOrAfter s.belt.pos r.windowStart = true → atOrAfter r.windowEnd s.belt.pos = true →
    (∀ n ∈ run, signedDist s.belt.pos (n.windowEnd + 1) ≤ 0) →
    (∀ n ∈ left.head?, 0 < signedDist s.belt.pos (n.windowEnd + 1)) →
    GeometryInRange s.diverter.geometry → AdmissionInRange s.admission →
    decision (some r.tote) s = .admitted how →
    let p := s.belt.pos
    let g := s.diverter.geometry
    let arrival := plus p g.eyeToPaddle
    let eye : Eye := { s.eye with
      state := .blocked, lead := some p, blockedDeadline := some ⟨plus p s.eye.maxLength, s.eye.maxLength⟩,
      context := .matched r.tote p .diverted }
    let seen : State := raiseAll .missedTote
      (run.mapIdx fun i n => ⟨n.tote.tag, n.tote.order, n.tote.source.toNat, BitVec.ofNat 16 (i + 1), p⟩)
      { s with
        pins := { s.pins with eye := level }
        eye := eye
        tracking := { s.tracking with queue := left, headDeadline := left.head?.map fun n => n.windowEnd + 1 } }
    let table : List Reservation :=
      match how with
      | .plain => s.admission.table
      | .onReservation => s.admission.table.filterMap fun e =>
          if e.order ≠ r.tote.order then some e else if e.zones ≤ 1 then none else some { e with zones := e.zones - 1 }
      | .newReservation n => s.admission.table ++ [⟨r.tote.order, n, plus p s.admission.span⟩]
    let committed : Diverter → StepResult := fun d => .next
      { settleLane { seen with
          diverter := d
          admission := { s.admission with table := table }
          lane := { s.lane with
            inbound := s.lane.inbound ++ [⟨⟨r.tote, false⟩, plus arrival s.lane.entryDistance⟩] } } with eye := eye }
    (∀ fire, verdict p s = .arm fire → exec (.eyeChange level) s = committed (
      if throwLead s = g.eyeToPaddle then
        { s.diverter with fire := none, state := .throwing, phase := some ⟨.throwing, 0, g.throwTime, 0⟩ }
      else { s.diverter with fire := some (minus arrival (throwLead s)), state := .armed, phase := none })) ∧
    (verdict p s = .join →
      exec (.eyeChange level) s = committed { s.diverter with release := none, clear := none, flag := true }) ∧
    (∀ fire, verdict p s = .rethrow fire →
      exec (.eyeChange level) s = committed { s.diverter with
        fire := some (minus arrival (throwLead s)), release := none, flag := true })

/-- The decision before the timing verdict follows the order of Table 5-3 (R71 to R76): each check in its place, with the detail
and the value that Table 5-4 gives a refusal. -/
def Obligations.DecisionFollowsTable : Prop :=
  ∀ (m : Option ToteFields) (s : State),
    let taken := held s.lane + s.lane.inbound.length + reserved s.admission
    let ready := (zone s.lane 1).state = .empty ∨ (zone s.lane 1).state = .filling
    let full := 4 ≤ s.lane.inbound.length
    (m = none → decision m s = .passUnknown) ∧
    (∀ t, m = some t →
      let action := lookup s.plan t.dest t.cls
      let need := t.count + 1 - t.seq
      let kept := ∃ r ∈ s.admission.table, r.order = t.order
      (action = .pass → decision m s = .pass) ∧
      (action ≠ .pass → s.diverter.state = .fault → decision m s = .refused 0 0) ∧
      (action ≠ .pass → s.diverter.state ≠ .fault → s.lane.state = .jammed → decision m s = .refused 1 0) ∧
      (action ≠ .pass → s.diverter.state ≠ .fault → s.lane.state ≠ .jammed →
        s.lane.accepted.getLsbD t.cls.val = false → decision m s = .refused 2 t.cls.val) ∧
      (action ≠ .pass → s.diverter.state ≠ .fault → s.lane.state ≠ .jammed →
        s.lane.accepted.getLsbD t.cls.val = true →
        (action = .group → kept → decision m s = if full then .refused 1 1 else .admitted .onReservation) ∧
        (action = .group → ¬ kept → t.order ≠ 0 → t.refusals < s.admission.refusalLimit →
          decision m s =
            if s.lane.zoneCount < need then .refused 3 need
            else if 1 < need ∧ 4 ≤ s.admission.table.length then .refused 1 need
            else if ready ∧ need + taken ≤ s.lane.zoneCount ∧ ¬ full then
              .admitted (if 1 < need then .newReservation (need - 1) else .plain)
            else .refused 1 need) ∧
        (action = .divert ∨ ¬ kept ∧ (t.order = 0 ∨ s.admission.refusalLimit ≤ t.refusals) →
          decision m s =
            if ready ∧ 1 + taken ≤ s.lane.zoneCount ∧ ¬ full then .admitted .plain else .refused 1 1)))

/-- R74: a GROUP tote of an order without an entry, whose order is 0 or whose refusals have reached the limit, is decided as a DIVERT
tote, and its commitment neither looks for nor makes a reservation. -/
def Obligations.EscalatedGroupIsDecidedAsDivert : Prop :=
  ∀ (t : ToteFields) (s u : State) (how : Admit) (lead : Pos),
    lookup s.plan t.dest t.cls = .group → (∀ r ∈ s.admission.table, r.order ≠ t.order) →
    t.order = 0 ∨ s.admission.refusalLimit ≤ t.refusals →
    (∀ plan : RoutePlan, lookup plan t.dest t.cls = .divert →
      decision (some t) s = decision (some t) { s with plan := plan }) ∧
    (decision (some t) s = .admitted how → how = .plain ∧ commitReservation how t lead u = u)

/-- EYE_CHANGE, a crowded tote (R40, R41, R81, R89, R107): a tote with a pass-type outcome that is crowded is CARRIED into the
inbound list with a trim when the list holds fewer than 4 records and held + inbound is less than Z, and UNTRACKED otherwise;
CROWDED, raised in place of the event of its outcome, names the outcome replaced, and no hand-off is made. For an unknown tote, with
the queue empty or before the head window, the value is 1; for a matched tote, with the run of missed records behind it, it is 0 with
the action PASS, 2 when the tote was refused and 3 when it was late. That the trim's notes come before CROWDED is the model's reading
(log entry 20), and that CROWDED comes before the notes of a lane that follows its list at once its choice (log entry 39). -/
def Obligations.CrowdedToteLeavesTheBelt : Prop :=
  ∀ (level : Bool) (s : State), Calm s → s.eye.state = .clear → readsBlocked s.eye.polarity level = true →
    isCrowded s.belt.pos s.diverter = true →
    let p := s.belt.pos
    let deadline := plus (plus p s.diverter.geometry.eyeToPaddle) s.lane.entryDistance
    let seen : EyeContext → Tracking → State := fun c q => { s with
      pins := { s.pins with eye := level }
      eye := { s.eye with
        state := .blocked, lead := some p, blockedDeadline := some ⟨plus p s.eye.maxLength, s.eye.maxLength⟩,
        context := c }
      tracking := q }
    let leaves : ToteFields → Nat → State → StepResult := fun t replaced u => .next (
      if s.lane.inbound.length < 4 ∧ held s.lane + s.lane.inbound.length < s.lane.zoneCount then
        { settleLane (raise .crowded ⟨t.tag, t.order, 0, BitVec.ofNat 16 replaced, p⟩ (trim { u with
            lane := { s.lane with inbound := s.lane.inbound ++ [⟨⟨t, true⟩, deadline⟩] } })) with eye := u.eye }
      else raise .crowded ⟨t.tag, t.order, 1, BitVec.ofNat 16 replaced, p⟩ u)
    let unknown : NoteBody → StepResult := fun n =>
      leaves anonymousFields 1 (raise .unknownTote n (seen (.anonymous p .crowded) s.tracking))
    (s.tracking.queue = [] → exec (.eyeChange level) s = unknown ⟨0, 0, 0, 0, p⟩) ∧
    (∀ r rest, s.tracking.queue = r :: rest → isBefore p r.windowStart = true →
      exec (.eyeChange level) s =
        unknown ⟨r.tote.tag, r.tote.order, 1, BitVec.ofInt 16 (signedDist p r.windowStart), p⟩) ∧
    (∀ (r : TrackRecord) (run left : List TrackRecord), s.tracking.queue = r :: (run ++ left) →
      atOrAfter p r.windowStart = true → atOrAfter r.windowEnd p = true →
      (∀ n ∈ run, signedDist p (n.windowEnd + 1) ≤ 0) → (∀ n ∈ left.head?, 0 < signedDist p (n.windowEnd + 1)) →
      let matched : Nat → StepResult := fun replaced => leaves r.tote replaced (raiseAll .missedTote
        (run.mapIdx fun i n => ⟨n.tote.tag, n.tote.order, n.tote.source.toNat, BitVec.ofNat 16 (i + 1), p⟩)
        (seen (.matched r.tote p .crowded)
          { s.tracking with queue := left, headDeadline := left.head?.map fun n => n.windowEnd + 1 }))
      (lookup s.plan r.tote.dest r.tote.cls = .pass → exec (.eyeChange level) s = matched 0) ∧
      (∀ detail value, decision (some r.tote) s = .refused detail value → exec (.eyeChange level) s = matched 2) ∧
      (∀ how l, decision (some r.tote) s = .admitted how → (verdict p s = .lateLead l ∨ verdict p s = .lateReturn l) →
        exec (.eyeChange level) s = matched 3))

/-! ### The tote on the eye (chapter 2) -/

/-- EYE_CHANGE within a tote (R15, R18, R19): a change to clear in BLOCKED starts the clear debounce at P, a change to blocked in
CLEARING merges the gap, and a change to the level that the state shows leaves the Eye Unit unchanged. -/
def Obligations.EyeChangeWithinTote : Prop :=
  ∀ (level : Bool) (s : State), Calm s →
    let read : State := { s with pins := { s.pins with eye := level } }
    (s.eye.state = .blocked → readsBlocked s.eye.polarity level = false →
      exec (.eyeChange level) s = .next { read with eye := { s.eye with
        state := .clearing, clearing := some s.belt.pos, debounceEnd := some (plus s.belt.pos s.eye.debounce) } }) ∧
    (s.eye.state = .clearing → readsBlocked s.eye.polarity level = true →
      exec (.eyeChange level) s = .next { read with eye := { s.eye with
        state := .blocked, clearing := none, debounceEnd := none } }) ∧
    (s.eye.state = .blocked → readsBlocked s.eye.polarity level = true → exec (.eyeChange level) s = .next read) ∧
    (s.eye.state = .clearing → readsBlocked s.eye.polarity level = false →
      exec (.eyeChange level) s = .next read) ∧
    (s.eye.state = .clear → readsBlocked s.eye.polarity level = false → exec (.eyeChange level) s = .next read)

/-- TRAILING_EDGE (R20, R22, R23): the length check is made for a MATCHED tote with the class's nominal length, the trailing
position goes to the Diverter Drive for DIVERTED and CROWDED, and the Eye Unit is CLEAR with every position removed and its context
empty; before P is at the end of the debounce, or in another state, nothing happens. That last clause is the model's choice (log
entry 4). -/
def Obligations.TrailingEdgeIsConfirmed : Prop :=
  (∀ (s : State) (trail : Pos), s.resetLow = false → s.eye.state = .clearing → s.eye.clearing = some trail →
    s.eye.debounceEnd = some s.belt.pos →
    let cleared : State → State := fun t => { t with eye := { s.eye with
      state := .clear, lead := none, clearing := none, debounceEnd := none, blockedDeadline := none, context := .empty } }
    (∀ tote lead outcome, s.eye.context = .matched tote lead outcome →
      let length := signedDist lead trail
      let checked :=
        if (s.eye.tolerance : Int) < |length - (s.eye.nominal.get tote.cls : Int)| then
          raise .lengthMismatch ⟨tote.tag, tote.order, tote.cls.val,
            if 0 ≤ length ∧ length ≤ 65535 then BitVec.ofInt 16 length else 65535, trail⟩ s
        else s
      exec .trailingEdge s = .next (cleared
        (if outcome = .diverted ∨ outcome = .crowded then trailingTaken trail checked else checked))) ∧
    (∀ lead outcome, s.eye.context = .anonymous lead outcome →
      exec .trailingEdge s = .next (cleared
        (if outcome = .diverted ∨ outcome = .crowded then trailingTaken trail s else s))) ∧
    (s.eye.context = .noLead → exec .trailingEdge s = .next (cleared s))) ∧
  (∀ s : State, s.eye.state ≠ .clearing ∨ s.eye.debounceEnd ≠ some s.belt.pos →
    exec .trailingEdge s = .next s)

/-- A trailing position at the Diverter Drive (R94, R101): out of REST and FAULT the release is trail + E_p + m and the clear is
release + R, with R the return time in counts, rounded upward and raised to the return floor; the flag is cleared; in HOLDING a
release at or before P starts the return at once. In REST and FAULT the position is discarded and the flag cleared. -/
def Obligations.TrailingPositionSetsRelease : Prop :=
  ∀ (trail : Pos) (s : State),
    let g := s.diverter.geometry
    let release := plus (plus trail g.eyeToPaddle) g.margin
    let lead := max ((g.returnTime * s.belt.speed + s.belt.gate.ms - 1) / s.belt.gate.ms) g.returnFloor
    let moved : Diverter :=
      { s.diverter with release := some release, clear := some (plus release lead), flag := false }
    (s.diverter.state = .rest ∨ s.diverter.state = .fault →
      trailingTaken trail s = { s with diverter := { s.diverter with flag := false } }) ∧
    (s.diverter.state = .armed ∨ s.diverter.state = .throwing ∨ s.diverter.state = .returning →
      trailingTaken trail s = { s with diverter := moved }) ∧
    (s.diverter.state = .holding →
      trailingTaken trail s =
        if signedDist s.belt.pos release ≤ 0 then
          { s with diverter :=
            { moved with state := .returning, phase := some ⟨.returning, 0, g.returnTime, 0⟩ } }
        else { s with diverter := moved })

/-- BLOCKED_DEADLINE (R24): EYE_BLOCKED is raised once, with the maximum length that the deadline was set with, and the deadline
is removed; when the same count event reaches the end of the debounce, the trailing edge is taken and no EYE_BLOCKED is raised. -/
def Obligations.BlockedEyeIsReportedOnce : Prop :=
  ∀ (s : State) (longest : Nat), s.resetLow = false → s.eye.state ≠ .clear →
    s.eye.blockedDeadline = some ⟨s.belt.pos, longest⟩ →
    let removed : State := { s with eye := { s.eye with blockedDeadline := none } }
    let note : Ident → Ident → Nat → NoteBody := fun tag order detail =>
      ⟨tag, order, detail, BitVec.ofNat 16 longest, s.belt.pos⟩
    (s.eye.state = .clearing → s.eye.debounceEnd = some s.belt.pos →
      exec .blockedDeadline s = exec .trailingEdge s) ∧
    (s.eye.state = .blocked ∨ s.eye.debounceEnd ≠ some s.belt.pos →
      (∀ tote lead outcome, s.eye.context = .matched tote lead outcome →
        exec .blockedDeadline s = .next (raise .eyeBlocked (note tote.tag tote.order 0) removed)) ∧
      (∀ lead outcome, s.eye.context = .anonymous lead outcome →
        exec .blockedDeadline s = .next (raise .eyeBlocked (note 0 0 0) removed)) ∧
      (s.eye.context = .noLead →
        exec .blockedDeadline s = .next (raise .eyeBlocked (note 0 0 1) removed)))

/-! ### The Tracking Unit (chapter 3) -/

/-- TOTE_FRAME (R30, R32, R33, R34): a frame of 9 bytes joins the queue at the tail with its window about P + upstream distance,
and sets the head deadline when the queue was empty; with 16 records there it is discarded with TRACK_FULL; a frame of another
length is discarded and counted; a frame at a receiver that takes none is lost, uncounted (R145). -/
def Obligations.ToteFrameIsTracked : Prop :=
  (∀ (f : LineFrame) (s : State), Listening s →
    (f.payload.length ≠ 9 →
      exec (.toteFrame f) s =
        .next { s with line := { s.line with errors := min 65535 (s.line.errors + 1) } }) ∧
    (f.payload.length = 9 →
      let tote := normalise f.source f.payload
      let expected := plus s.belt.pos s.tracking.upstream
      let record : TrackRecord :=
        ⟨tote, expected, minus expected s.tracking.early, plus expected s.tracking.late⟩
      (s.tracking.queue.length < 16 →
        exec (.toteFrame f) s = .next { s with tracking := { s.tracking with
          queue := s.tracking.queue ++ [record]
          headDeadline :=
            if s.tracking.queue = [] then some (record.windowEnd + 1) else s.tracking.headDeadline } }) ∧
      (16 ≤ s.tracking.queue.length →
        exec (.toteFrame f) s = .next (raise .trackFull
          ⟨tote.tag, tote.order, f.source.toNat,
            (match tote.dest with | some d => BitVec.ofNat 16 d.val | none => 255), s.belt.pos⟩ s)))) ∧
  (∀ (f : LineFrame) (s : State), Calm s → s.line.link = .down ∨ s.line.receiverReady = false →
    exec (.toteFrame f) s = .next s)

/-- Normalisation (R31): tag and order are taken as they stand, a destination above 63 is NONE, a class above 3 is 0, sequence and
count are brought into 1 to 8 and the sequence down to the count, refusals down to 15; the adjusted mark is set exactly when the
values sent on would differ from those received. -/
def Obligations.NormalisedToteIsInRange : Prop :=
  ∀ (source : Byte) (p : List Byte), p.length = 9 →
    let t := normalise source p
    let byteAt : Nat → Nat := fun i => (p.getD i 0).toNat
    t.tag.toNat = byteAt 0 * 256 + byteAt 1 ∧ t.order.toNat = byteAt 2 * 256 + byteAt 3 ∧
    t.dest.map (·.val) = (if byteAt 4 < 64 then some (byteAt 4) else none) ∧
    t.cls.val = (if byteAt 5 ≤ 3 then byteAt 5 else 0) ∧
    t.count = (if byteAt 7 < 1 then 1 else if 8 < byteAt 7 then 8 else byteAt 7) ∧
    t.seq = min (if byteAt 6 < 1 then 1 else if 8 < byteAt 6 then 8 else byteAt 6) t.count ∧
    t.refusals = (if 15 < byteAt 8 then 15 else byteAt 8) ∧ t.source = source ∧ ToteInRange t ∧
    (t.adjusted = true ↔ totePayload t t.refusals ≠ p)

/-- HEAD_DEADLINE_EXPIRY (R35, R36, R37): the head leaves with MISSED_TOTE value 1, and with it every record that has outlived its
window when it becomes the head, with values 2, 3 and on, all at P; the head deadline is that of the record left, if any. A command
sent when P is not at the deadline changes nothing: the model's choice (log entry 4). -/
def Obligations.HeadExpiryRemovesARun : Prop :=
  (∀ (s : State) (r : TrackRecord) (run left : List TrackRecord), s.resetLow = false →
    s.tracking.headDeadline = some s.belt.pos → s.tracking.queue = r :: (run ++ left) →
    (∀ n ∈ run, signedDist s.belt.pos (n.windowEnd + 1) ≤ 0) →
    (∀ n ∈ left.head?, 0 < signedDist s.belt.pos (n.windowEnd + 1)) →
    exec .headDeadlineExpiry s = .next (raiseAll .missedTote
      ((r :: run).mapIdx fun i n =>
        ⟨n.tote.tag, n.tote.order, n.tote.source.toNat, BitVec.ofNat 16 (i + 1), s.belt.pos⟩)
      { s with tracking := { s.tracking with
          queue := left, headDeadline := left.head?.map fun n => n.windowEnd + 1 } })) ∧
  (∀ s : State, s.tracking.headDeadline ≠ some s.belt.pos → exec .headDeadlineExpiry s = .next s)

/-! ### The Route Plan (chapter 4) -/

/-- SET_WINDOW (R52, R54, R67): the last destination and the last class are clamped to 63 and 3; a window inverted after that, or an
unknown fill order, is BAD_VALUE and changes nothing; otherwise window and fill order are set and both cursors stand at the window
start, not done.
WRITE_ENTRIES, CONTINUE_ENTRIES, READ_ENTRIES and CONTINUE_READ (R55, R57, R59 to R62): a write loads the standby bank, from the
window start or from the write cursor as it stands, and answers with written, discarded, write cursor and done flag; a read answers
with the actions of the selected bank and moves the read cursor alone, and a selector above 3 or a count out of 1 to 28 is
BAD_VALUE. -/
def Obligations.PlanIsLoadedAndRead : Prop :=
  (∀ (a : Ask) (s : State) (d0 d1 c0 c1 order : Byte), Listening s → Mine a.target s →
      a.fields = [d0, d1, c0, c1, order] →
      let d := min d1.toNat 63
      let c := min c1.toNat 3
      let start : Cursor := ⟨⟨Fin.ofNat 64 d0.toNat, Fin.ofNat 4 c0.toNat⟩, false⟩
      exec (.setWindow a) s = .next (
        if order.toNat ≤ 1 ∧ d0.toNat ≤ d ∧ c0.toNat ≤ c then
          answered a 0x10 0 (decide (63 < d1.toNat ∨ 3 < c1.toNat)) [d0.toNat, d, c0.toNat, c, order.toNat]
            { s with plan := { s.plan with
              d0 := start.cell.dest, d1 := Fin.ofNat 64 d, c0 := start.cell.cls, c1 := Fin.ofNat 4 c
              order := if order = 0 then .destFirst else .classFirst
              write := start, read := start } }
        else answered a 0x10 2 false [] s)) ∧
  (∀ (a : Ask) (s : State), Listening s → Mine a.target s →
      let loaded : Nat → Load → StepResult := fun code l => .next (answered a code 0 l.clamped
        [l.written, a.fields.length - l.written, l.plan.write.cell.dest.val, l.plan.write.cell.cls.val,
          if l.plan.write.done then 1 else 0] { s with plan := l.plan })
      (1 ≤ a.fields.length → a.fields.length ≤ 28 →
        exec (.writeEntries a) s = loaded 0x11 (startLoad a.fields s.plan) ∧
        exec (.continueEntries a) s = loaded 0x12 (continueLoad a.fields s.plan)) ∧
      (∀ selector count : Byte, a.fields = [selector, count] →
        let bank := if selector = 0 then .a else if selector = 1 then .b
          else if selector = 2 then s.plan.active else otherBank s.plan.active
        let read : Nat → Cursor → StepResult := fun code start =>
          if selector.toNat ≤ 3 ∧ 1 ≤ count.toNat ∧ count.toNat ≤ 28 then
            let r := readValues s.plan (bankCells s.plan bank) count.toNat start
            .next (answered a code 0 false (r.1.length :: r.1.map Action.code)
              { s with plan := { s.plan with read := r.2 } })
          else .next (answered a code 2 false [] s)
        exec (.readEntries a) s = read 0x13 ⟨⟨s.plan.d0, s.plan.c0⟩, false⟩ ∧
        exec (.continueRead a) s = read 0x14 s.plan.read))

/-- The walk (R53): from the window start, in either fill order, it takes each cell of the window once and no cell outside it, and it
ends at the window's last cell. -/
def Obligations.WalkVisitsWindowOnce : Prop :=
  ∀ p : RoutePlan, p.d0 ≤ p.d1 → p.c0 ≤ p.c1 →
    let cells := walkCells p 256 ⟨p.d0, p.c0⟩
    cells.Nodup ∧ (∀ c, c ∈ cells ↔ InWindow p c) ∧
    cells.length = (p.d1.val - p.d0.val + 1) * (p.c1.val - p.c0.val + 1) ∧
    cells.getLast? = some ⟨p.d1, p.c1⟩

/-- A load from the window start (R53, R55, R56, R59): the values go one by one into the cells of the walk in the standby bank, a value
that is no action as PASS, which alone sets the CLAMPED mark; every other cell, the active bank, the window and the read cursor keep
their values; the cursor stands on the next cell, or done on the window's last. -/
def Obligations.LoadFollowsTheWalk : Prop :=
  ∀ (p : RoutePlan) (vs : List Byte), p.d0 ≤ p.d1 → p.c0 ≤ p.c1 → vs ≠ [] →
    let cells := walkCells p 256 ⟨p.d0, p.c0⟩
    let n := min vs.length cells.length
    let l := startLoad vs p
    let bank := bankCells l.plan (otherBank p.active)
    l.written = n ∧
    (∀ i c v, i < n → cells[i]? = some c → vs[i]? = some v →
      cellOf bank c = if v.toNat = 1 then .divert else if v.toNat = 2 then .group else .pass) ∧
    (∀ c, c ∉ cells.take n → cellOf bank c = cellOf (bankCells p (otherBank p.active)) c) ∧
    (l.clamped = true ↔ ∃ v ∈ vs.take n, 2 < v.toNat) ∧
    (l.plan.write.done = true ↔ cells.length ≤ vs.length) ∧
    some l.plan.write.cell = (if cells.length ≤ vs.length then some ⟨p.d1, p.c1⟩ else cells[vs.length]?) ∧
    l.plan = { putBank p (otherBank p.active) bank with write := l.plan.write }

/-- Loads and reads join (R55, R57, R61, R62): a CONTINUE after a load is the load of all the values, and a read of the whole walk
after a load gives back the actions loaded. -/
def Obligations.LoadsAndReadsJoin : Prop :=
  (∀ (p : RoutePlan) (vs ws : List Byte),
    let first := startLoad vs p
    let second := continueLoad ws first.plan
    let whole := startLoad (vs ++ ws) p
    second.plan = whole.plan ∧ first.written + second.written = whole.written ∧
    (first.clamped || second.clamped) = whole.clamped) ∧
  (∀ (p : RoutePlan) (cells : BankCells) (m n : Nat) (c : Cursor),
    let r := readValues p cells m c
    readValues p cells (m + n) c =
      (r.1 ++ (readValues p cells n r.2).1, (readValues p cells n r.2).2)) ∧
  (∀ (p : RoutePlan) (vs : List Byte), p.d0 ≤ p.d1 → p.c0 ≤ p.c1 →
    let l := startLoad vs p
    (readValues l.plan (bankCells l.plan (otherBank p.active)) l.written ⟨⟨p.d0, p.c0⟩, false⟩).1 =
      (vs.take l.written).map fun v =>
        if v.toNat = 1 then .divert else if v.toNat = 2 then .group else .pass)

/-- COPY_PLAN (R65) and SWAP_PLAN (R63): the copy makes every cell of the standby bank equal to that of the active bank, changes no
lookup, and answers with the bank written; the swap exchanges the roles, after which every lookup of a destination reads the bank
that was standby, and answers with the bank now active, which the status record shows; a second swap gives the roles back. Both
place the write cursor at the window start. -/
def Obligations.SwapAndCopyPlan : Prop :=
  ∀ (a : Ask) (s : State), Listening s → Mine a.target s → a.fields = [] →
    let other := otherBank s.plan.active
    let start : Cursor := ⟨⟨s.plan.d0, s.plan.c0⟩, false⟩
    let copied : RoutePlan :=
      { s.plan with
        bankA := bankCells s.plan s.plan.active, bankB := bankCells s.plan s.plan.active, write := start }
    let swapped : RoutePlan := { s.plan with active := other, write := start }
    exec (.copyPlan a) s = .next (answered a 0x16 0 false [other.code] { s with plan := copied }) ∧
    (∀ dest cls, lookup copied dest cls = lookup s.plan dest cls) ∧
    exec (.swapPlan a) s = .next (answered a 0x15 0 false [other.code] { s with plan := swapped }) ∧
    (∀ dest cls, lookup swapped (some dest) cls = cellOf (bankCells s.plan other) ⟨dest, cls⟩) ∧
    otherBank other = s.plan.active ∧
    (statusRecord { s with plan := swapped })[14]? = some (BitVec.ofNat 8 other.code)

/-- No command but POWER_ON writes a cell of the bank that is active when the command is taken (R50, R51, R55, R63, R65). Every ask that
does not name the plan leaves both banks, the marker, the window, the fill order and both cursors as they are, and a read of the plan
moves the read cursor alone (R58, R60, R62, R69). -/
def Obligations.ActiveBankIsNeverLoaded : Prop :=
  (∀ (c : Instr) (s t : State), exec c s = .next t → (∀ enc levels, c ≠ .powerOn enc levels) →
    bankCells t.plan s.plan.active = bankCells s.plan s.plan.active) ∧
  (∀ (code : AskCode) (a : Ask) (s t : State), exec (askCommand code a) s = .next t →
    code ∉ [.setWindow, .writeEntries, .continueEntries, .swapPlan, .copyPlan] →
    t.plan = { s.plan with read := t.plan.read } ∧
    (code ≠ .readEntries → code ≠ .continueRead → t.plan = s.plan))

/-! ### Reservations and room (chapters 5 and 7) -/

/-- RESERVATION_EXPIRY (R87) and ENTRY_DEADLINE (R120): every entry, or inbound record, whose position P has reached leaves its list
with its own note, in list order; the lane then follows its inbound list (R117). ENTRY_DEADLINE with no deadline at P changes
nothing: the model's choice (log entries 3 and 4). -/
def Obligations.ExpiriesLeaveTheirLists : Prop :=
  ∀ s : State, s.resetLow = false →
    exec .reservationExpiry s = .next (raiseAll .reservationLapsed
      ((s.admission.table.filter fun r => r.expiry == s.belt.pos).map fun r =>
        ⟨0, r.order, 0, BitVec.ofNat 16 r.zones, s.belt.pos⟩)
      { s with admission := { s.admission with
          table := s.admission.table.filter fun r => r.expiry != s.belt.pos } }) ∧
    ((∃ r ∈ s.lane.inbound, r.deadline = s.belt.pos) →
      exec .entryDeadline s = .next (settleLane (raiseAll .entryMissed
        ((s.lane.inbound.filter fun r => r.deadline == s.belt.pos).map fun r =>
          ⟨r.record.tote.tag, r.record.tote.order, 0, if r.record.carried then 1 else 0, s.belt.pos⟩)
        { s with lane := { s.lane with inbound := s.lane.inbound.filter fun r => r.deadline != s.belt.pos } }))) ∧
    ((∀ r ∈ s.lane.inbound, r.deadline ≠ s.belt.pos) → exec .entryDeadline s = .next s)

/-- The trim (R88): the reserved zones fall by the excess of held + inbound + reserved over Z, from the newest entry on; the entries
that reach 0 go, newest first, each with RESERVATION_LAPSED detail TRIMMED and the count it held; of those left only the newest may be
reduced, and none grows; nothing else changes. -/
def Obligations.TrimTakesTheNewest : Prop :=
  ∀ s : State, (∀ r ∈ s.admission.table, 1 ≤ r.zones) →
    let t := trim s
    let left := t.admission.table
    reserved t.admission = reserved s.admission - (roomSum s - s.lane.zoneCount) ∧
    left.map (fun r => (r.order, r.expiry)) <+: s.admission.table.map (fun r => (r.order, r.expiry)) ∧
    left.dropLast <+: s.admission.table ∧ (∀ r ∈ left, 1 ≤ r.zones) ∧
    (∀ p ∈ left.zip s.admission.table, p.1.zones ≤ p.2.zones) ∧
    t = raiseAll .reservationLapsed
      ((s.admission.table.drop left.length).reverse.map fun r =>
        ⟨0, r.order, 1, BitVec.ofNat 16 r.zones, s.belt.pos⟩)
      { s with admission := { s.admission with table := left } }

/-- The rescan (R128): every zone up to Z is HELD with its record, or an anonymous one, where its eye reads blocked, and EMPTY where
it reads clear, without mark or timer; the trim is taken (R88); then, when no reservation is left, the oldest inbound records in
excess of Z leave the list, each with ENTRY_MISSED detail RESCAN, oldest first; and held + inbound + reserved is at most Z. Nothing
else changes. -/
def Obligations.RescanReadsTheEyes : Prop :=
  ∀ s : State, 2 ≤ s.lane.zoneCount → s.lane.zoneCount ≤ 8 →
    let t := rescan s
    let found : State := { s with lane := { s.lane with
      zones := Vector.ofFn fun i : Fin 8 =>
        if i.val < s.lane.zoneCount ∧ zoneBlocked s (i.val + 1) = true then
          ⟨.held, some ((zone s.lane (i.val + 1)).record.getD ⟨anonymousFields, false⟩), false, none⟩
        else emptyZone
      discharge := none
      lateTimeout := false } }
    let n := if t.admission.table = [] then held found.lane + s.lane.inbound.length - s.lane.zoneCount else 0
    t = raiseAll .entryMissed
      ((s.lane.inbound.take n).map fun r =>
        ⟨r.record.tote.tag, r.record.tote.order, 1, if r.record.carried then 1 else 0, s.belt.pos⟩)
      { trim found with lane := { found.lane with inbound := s.lane.inbound.drop n } } ∧
    (∀ k, 1 ≤ k → k ≤ s.lane.zoneCount → zone t.lane k =
      if zoneBlocked s k = true then
        ⟨.held, some ((zone s.lane k).record.getD ⟨anonymousFields, false⟩), false, none⟩
      else emptyZone) ∧
    t.lane.discharge = none ∧ t.lane.lateTimeout = false ∧ t.lane.state = s.lane.state ∧ roomSum t ≤ s.lane.zoneCount ∧
    t.lane.inbound <:+ s.lane.inbound ∧ (t.admission.table ≠ [] → t.lane.inbound = s.lane.inbound) ∧
    (t.lane.inbound ≠ s.lane.inbound → roomSum t = s.lane.zoneCount)

/-! ### The Diverter Drive (chapter 6) -/

/-- The throw lead and the return lead (R93, R94): each is the least number of counts that is at least its floor and in which the belt
moves at least as far as in the throw or the return time; with the settings and S in their ranges it is at most 32,633. -/
def Obligations.LeadsAreLeast : Prop :=
  ∀ s : State,
    let g := s.diverter.geometry
    (g.throwFloor ≤ throwLead s ∧ g.throwTime * s.belt.speed ≤ throwLead s * s.belt.gate.ms ∧
      ∀ n, g.throwFloor ≤ n → g.throwTime * s.belt.speed ≤ n * s.belt.gate.ms → throwLead s ≤ n) ∧
    (g.returnFloor ≤ returnLead s ∧ g.returnTime * s.belt.speed ≤ returnLead s * s.belt.gate.ms ∧
      ∀ n, g.returnFloor ≤ n → g.returnTime * s.belt.speed ≤ n * s.belt.gate.ms → returnLead s ≤ n) ∧
    (GeometryInRange g → BeltInRange s.belt → throwLead s ≤ 32633 ∧ returnLead s ≤ 32633)

/-- The timing verdict by state (R97 to R99) and the crowding test by state (R107). In FAULT the verdict is not asked; the crowding
test answers not crowded there and in REST. -/
def Obligations.PaddleAnswersByState : Prop :=
  ∀ (lead : Pos) (s : State),
    let d := s.diverter
    let arrival := plus lead d.geometry.eyeToPaddle
    let fire := minus arrival (throwLead s)
    let late := d.geometry.eyeToPaddle < throwLead s
    (d.state = .rest → verdict lead s = if late then .lateLead (throwLead s) else .arm fire) ∧
    (d.state = .armed ∨ d.state = .throwing ∨ d.state = .holding → verdict lead s = .join) ∧
    (d.state = .returning → d.fire ≠ none → verdict lead s = .join) ∧
    (d.state = .returning → d.fire = none → late → verdict lead s = .lateLead (throwLead s)) ∧
    (d.state = .returning → d.fire = none → ¬ late → ∀ clear, d.clear = some clear →
      verdict lead s = if isBefore fire clear = true then .lateReturn (throwLead s) else .rethrow fire) ∧
    (d.state = .returning → d.fire = none → ¬ late → d.clear = none → verdict lead s = .rethrow fire) ∧
    (isCrowded lead d = true ↔
      d.state ≠ .rest ∧ d.state ≠ .fault ∧
        (d.flag = true ∨ d.release = none ∨ ∃ clear, d.clear = some clear ∧ isBefore arrival clear = true))

/-- FIRE_REACHED (R102) and THROW_END (R103, R108): in ARMED a fire position equal to P starts the throw with its THROW part; at the
end of that part a HOME still active gives FAULT detail THROW with the milliseconds of the throw, and a HOME not active gives
HOLDING, or RETURNING at once when a stored release is at or before P. FIRE_REACHED elsewhere changes nothing, THROW_END does not
ask what the timer has counted, and the first drive period takes the hold duty: the model's choices (log entries 2, 4 and 21). -/
def Obligations.ThrowRunsItsCourse : Prop :=
  (∀ s : State, s.resetLow = false → s.diverter.state = .armed → s.diverter.fire = some s.belt.pos →
    exec .fireReached s = .next { s with diverter := { s.diverter with
      fire := none, state := .throwing, phase := some ⟨.throwing, 0, s.diverter.geometry.throwTime, 0⟩ } }) ∧
  (∀ s : State, s.diverter.state ≠ .armed ∨ s.diverter.fire ≠ some s.belt.pos → exec .fireReached s = .next s) ∧
  (∀ (s : State) (elapsed length : Nat), Calm s → s.diverter.phase = some ⟨.throwing, elapsed, length, 0⟩ →
    exec (.throwEnd true) s = .next (raise .diverterFault ⟨0, 0, 0, BitVec.ofNat 16 length, s.belt.pos⟩
      { s with
        pins := { s.pins with home := true }
        diverter := { s.diverter with
          state := .fault, phase := none, fire := none, release := none, clear := none, flag := false } }) ∧
    ((∀ r ∈ s.diverter.release, 0 < signedDist s.belt.pos r) →
      exec (.throwEnd false) s = .next { s with
        pins := { s.pins with home := false }
        diverter := { s.diverter with state := .holding, phase := none, duty := s.diverter.geometry.holdDuty } }) ∧
    (∀ r, s.diverter.release = some r → signedDist s.belt.pos r ≤ 0 →
      exec (.throwEnd false) s = .next { s with
        pins := { s.pins with home := false }
        diverter := { s.diverter with
          state := .returning, phase := some ⟨.returning, 0, s.diverter.geometry.returnTime, 0⟩
          duty := s.diverter.geometry.holdDuty } }))

/-- RELEASE_REACHED (R104), RETURN_END, HOME_ACTIVE and HOME_WAIT_EXPIRY (R105, R106, R108): in HOLDING a release equal to P starts
the return; a return is complete with HOME active at its end or within the home wait, and gives REST, or with a re-throw pending
ARMED, or THROWING when that fire is at or before P; a home wait that ends, or a grace of 0, gives FAULT detail RETURN with the
milliseconds of the return and the wait. RELEASE_REACHED elsewhere changes nothing and the ends of the phase do not ask what the
timer has counted: the model's choices (log entries 2 and 4). -/
def Obligations.ReturnRunsItsCourse : Prop :=
  (∀ s : State, s.resetLow = false → s.diverter.state = .holding → s.diverter.release = some s.belt.pos →
    exec .releaseReached s = .next { s with diverter := { s.diverter with
      state := .returning, phase := some ⟨.returning, 0, s.diverter.geometry.returnTime, 0⟩ } }) ∧
  (∀ s : State, s.diverter.state ≠ .holding ∨ s.diverter.release ≠ some s.belt.pos →
    exec .releaseReached s = .next s) ∧
  (∀ (s : State) (elapsed length ran : Nat), Calm s →
    let complete : Diverter :=
      match s.diverter.fire with
      | none => { s.diverter with state := .rest, phase := none, release := none, clear := none, flag := false }
      | some f =>
        if signedDist s.belt.pos f ≤ 0 then
          { s.diverter with
            fire := none, state := .throwing, phase := some ⟨.throwing, 0, s.diverter.geometry.throwTime, 0⟩ }
        else { s.diverter with state := .armed, phase := none }
    let home : Bool → Diverter → State := fun level d =>
      { s with pins := { s.pins with home := level }, diverter := d }
    let fault : Diverter := { s.diverter with
      state := .fault, phase := none, fire := none, release := none, clear := none, flag := false }
    (s.diverter.phase = some ⟨.returning, elapsed, length, ran⟩ →
      exec (.returnEnd true) s = .next (home true complete) ∧
      (s.diverter.geometry.grace ≠ 0 → exec (.returnEnd false) s = .next (home false
        { s.diverter with phase := some ⟨.homeWait, 0, s.diverter.geometry.grace, ran + length⟩ })) ∧
      (s.diverter.geometry.grace = 0 → exec (.returnEnd false) s = .next (raise .diverterFault
        ⟨0, 0, 1, BitVec.ofNat 16 (ran + length), s.belt.pos⟩ (home false fault)))) ∧
    (s.diverter.phase = some ⟨.homeWait, elapsed, length, ran⟩ →
      exec .homeActive s = .next (home true complete) ∧
      exec .homeWaitExpiry s = .next (raise .diverterFault
        ⟨0, 0, 1, BitVec.ofNat 16 (ran + length), s.belt.pos⟩ { s with diverter := fault })))

/-- The output pins by state (R95, R114, R142, R143, R154): DRV_EN and DRV_DIR by the diverter state, a zone motor in FILLING and
PASSING outside JAMMED, the two lamps, and the bytes of the frame that is sent, as levels of the line (R146); with RESET_N low every one
of them is low and TXD idle (R158). The hold duty is that of the present drive period (log entries 21 and 30). -/
def Obligations.OutputsFollowTheState : Prop :=
  ∀ s : State,
    (s.resetLow = true → drvEn s = .low ∧ drvDir s = false ∧ (∀ k, zmot s k = false) ∧ readyLamp s = false ∧
      waitLamp s = false ∧ txd s = none) ∧
    (s.resetLow = false →
      (s.diverter.state = .throwing → drvEn s = .high ∧ drvDir s = true) ∧
      (s.diverter.state = .holding → s.diverter.duty < 16 → drvEn s = .pulsed s.diverter.duty ∧ drvDir s = true) ∧
      (s.diverter.state = .holding → s.diverter.duty = 16 → drvEn s = .high ∧ drvDir s = true) ∧
      (s.diverter.state = .returning → drvEn s = .high ∧ drvDir s = false) ∧
      (s.diverter.state = .rest ∨ s.diverter.state = .armed ∨ s.diverter.state = .fault →
        drvEn s = .low ∧ drvDir s = false) ∧
      (∀ k, zmot s k = true ↔ s.lane.state ≠ .jammed ∧ 1 ≤ k ∧ k ≤ s.lane.zoneCount ∧
        ((zone s.lane k).state = .filling ∨ (zone s.lane k).state = .passing)) ∧
      readyLamp s = s.counter.readyLit ∧ waitLamp s = s.counter.waitTimer.isSome ∧
      txd s = s.line.sending.map fun f => (frameBytes f).flatMap byteLevels)

/-! ### The Lane Controller (chapter 7) -/

/-- ZONE_EYE_CHANGE, an entry at zone 1 (R115, R118, R122): the oldest inbound record passes into zone 1, HELD, with ENTERED, its
CARRIED mark and the counts to spare; with no inbound record an anonymous record is made, with STRAY_ENTRY and a trim. The lane then
advances of itself: from a lane at rest, zone 1 stays HELD when zone 2 is not EMPTY, and with zone 2 EMPTY and its eye clear the
transfer from zone 1 starts at once, and nothing more. STRAY_ENTRY stands before the notes of its trim (log entry 20). That ENTERED, or
STRAY_ENTRY with its trim, comes before an ORDER_READY of the same entry is the model's choice (log entry 39). -/
def Obligations.EntryTakesTheOldest : Prop :=
  ∀ (level : Bool) (s : State), Calm s → 2 ≤ s.lane.zoneCount → s.lane.state ≠ .jammed →
    s.pins.zeye.get 0 ≠ level → readsBlocked s.lane.polarity level = true →
    ((zone s.lane 1).state = .empty ∨ (zone s.lane 1).state = .filling) →
    let read : State := { s with pins := { s.pins with zeye := s.pins.zeye.set 0 level } }
    let record : LaneRecord := (s.lane.inbound.head?.map fun r => r.record).getD ⟨anonymousFields, false⟩
    let holds : Lane := putZone 1 ⟨.held, some record, false, none⟩ s.lane
    let entered : State :=
      match s.lane.inbound with
      | r :: rest => evalReady (raise .entered
          ⟨r.record.tote.tag, r.record.tote.order, if r.record.carried then 1 else 0,
            BitVec.ofInt 16 (signedDist s.belt.pos r.deadline), s.belt.pos⟩
          { read with lane := { holds with inbound := rest } })
      | [] => evalReady (trim (raise .strayEntry ⟨0, 0, 0, 0, s.belt.pos⟩ { read with lane := holds }))
    exec (.zoneEyeChange 0 level) s = .next (settleLane entered) ∧
    (LaneRests s → (zone s.lane 2).state ≠ .empty → exec (.zoneEyeChange 0 level) s = .next entered) ∧
    (LaneRests s → (zone s.lane 2).state = .empty → zoneBlocked s 2 = false →
      exec (.zoneEyeChange 0 level) s = .next { entered with
        lane := putZone 2 { zone s.lane 2 with state := .filling }
          (putZone 1 ⟨.passing, some record, false, some ⟨0, s.lane.transferLimit * 10⟩⟩ entered.lane) })

/-- A jam (R119, R124, R125, R126, R127, R141): from RUNNING or PAUSED a block at zone 1 in HELD or PASSING, a transfer timer or the
discharge timer that runs out, or a block at an EMPTY zone above 1, sets the lane JAMMED, stops the timers, keeps the zones and the
inbound list, ends any release with its pending press unheard, and raises LANE_JAM with its detail, tote and zone. In JAMMED the
same commands change nothing but the pin. DISCHARGE_TIMEOUT is taken while its timer runs, and in the same millisecond after a
completion whose timer was at its limit, and a zone 1 in HELD or PASSING acts on the command's level as it stands: the model's
readings (log entries 38 and 23). The timers' commands do not ask what the timer has counted, and change nothing in JAMMED, and a
transfer whose record has gone on past zone k + 1 is noted with tag 0 and order 0: the model's choices (log entries 2, 4 and 37). -/
def Obligations.JamsStopTheLane : Prop :=
  ∀ s : State, Calm s → LaneRests s →
    let jammed : State := { s with
      lane := { s.lane with
        state := .jammed, zones := s.lane.zones.map fun z => { z with timer := none }, discharge := none, lateTimeout := false }
      counter := { s.counter with
        release := .idle, group := none, count := 0, pressWaits := false, readyLit := false } }
    let note : Nat → Option LaneRecord → Nat → NoteBody := fun detail r k =>
      ⟨((r.map fun r => r.tote.tag).getD 0), ((r.map fun r => r.tote.order).getD 0), detail, BitVec.ofNat 16 k,
        s.belt.pos⟩
    let pin : Fin 8 → Bool → State → State := fun i level t =>
      { t with pins := { t.pins with zeye := t.pins.zeye.set i level } }
    (s.lane.state ≠ .jammed → 2 ≤ s.lane.zoneCount →
      (∀ level, readsBlocked s.lane.polarity level = true →
        (zone s.lane 1).state = .held ∨ (zone s.lane 1).state = .passing →
        exec (.zoneEyeChange 0 level) s =
          .next (raise .laneJam (note 0 (zone s.lane 1).record 1) (pin 0 level jammed))) ∧
      (∀ (i : Fin 8) level, 1 ≤ i.val → i.val < s.lane.zoneCount → readsBlocked s.lane.polarity level = true →
        s.pins.zeye.get i ≠ level → (zone s.lane (i.val + 1)).state = .empty →
        exec (.zoneEyeChange i level) s =
          .next (raise .laneJam (note 3 none (i.val + 1)) (pin i level jammed))) ∧
      (∀ i : Fin 8, (zone s.lane (i.val + 1)).timer.isSome = true →
        exec (.transferTimeout i) s = .next (raise .laneJam
          (note 1 (if (zone s.lane (i.val + 1)).record.isSome then (zone s.lane (i.val + 1)).record
            else (zone s.lane (i.val + 2)).record) (i.val + 1)) jammed)) ∧
      (s.lane.discharge.isSome = true ∨ s.lane.lateTimeout = true →
        exec .dischargeTimeout s = .next (raise .laneJam
          (note 2 (zone s.lane s.lane.zoneCount).record s.lane.zoneCount) jammed)) ∧
      (s.lane.discharge = none → s.lane.lateTimeout = false → exec .dischargeTimeout s = .next s)) ∧
    (s.lane.state = .jammed → (∀ i level, exec (.zoneEyeChange i level) s = .next (pin i level s)) ∧
      (∀ i, exec (.transferTimeout i) s = .next s) ∧ exec .dischargeTimeout s = .next s)

/-- What the lane does of itself. Zone 1 follows the inbound list (R117): EMPTY with a record in the list it becomes FILLING, and
takes an entry at once (R118) when its eye is already blocked and the lane is not JAMMED; FILLING with an empty list it becomes
EMPTY. A transfer (R122, R123): the highest HELD zone k below Z with an EMPTY zone k + 1 becomes PASSING with its record, its timer
at 0 and its mark set when its eye reads clear, and zone k + 1 becomes FILLING; with the eye of zone k + 1 already blocked the
record moves at once. A clear at zone k takes the first part, and ends the transfer when the record has moved; a block at the
FILLING zone k + 1 moves the record, and zone k is EMPTY when the mark is set; a block at a PASSING zone from 2 to Z - 1 clears the
mark. Changes that no entry, transfer or discharge expects change the pin alone (R125). Arrivals at zone Z are here those with no
release WAITING, and a HELD or PASSING zone acts on the command's level as it stands: the model's reading (log entry 23). That zone
1 comes before transfers, transfers start from the highest zone, and ENTERED comes before ORDER_READY is the model's choice (log
entry 39). After an event the lane takes these rules one after another, in this way, until none applies (`settleLane`), in which
every event of the lane ends: from a lane of at most 8 zones and 4 inbound records their bound of 128 is never met (log entry 28).
-/
def Obligations.TransferHasTwoParts : Prop :=
  (∀ s : State, laneRule s = none → settleLane s = s) ∧
  (∀ s t : State, s.lane.zoneCount ≤ 8 → s.lane.inbound.length ≤ 4 → laneRule s = some t → settleLane s = settleLane t) ∧
  (∀ s : State, laneRule s = none ↔ LaneRests s) ∧
  (∀ (s : State) (r : InboundRecord) (rest : List InboundRecord),
    (zone s.lane 1).state = .empty → s.lane.inbound = r :: rest →
    let fills : State := evalReady { s with lane := putZone 1 { zone s.lane 1 with state := .filling } s.lane }
    (zoneBlocked s 1 = false ∨ s.lane.state = .jammed → laneRule s = some fills) ∧
    (zoneBlocked s 1 = true → s.lane.state ≠ .jammed →
      laneRule s = some (evalReady (raise .entered
        ⟨r.record.tote.tag, r.record.tote.order, if r.record.carried then 1 else 0,
          BitVec.ofInt 16 (signedDist s.belt.pos r.deadline), s.belt.pos⟩
        { fills with
          lane := { putZone 1 ⟨.held, some r.record, false, none⟩ fills.lane with inbound := rest } })))) ∧
  (∀ s : State, (zone s.lane 1).state = .filling → s.lane.inbound = [] →
    laneRule s =
      some (evalReady { s with lane := putZone 1 { zone s.lane 1 with state := .empty } s.lane })) ∧
  (∀ (s : State) (k : Nat), 1 ≤ k → k < s.lane.zoneCount → s.lane.state ≠ .jammed →
    (zone s.lane k).state = .held → (zone s.lane (k + 1)).state = .empty →
    (∀ j, k < j → j < s.lane.zoneCount → ¬ ((zone s.lane j).state = .held ∧ (zone s.lane (j + 1)).state = .empty)) →
    ((zone s.lane 1).state = .empty → s.lane.inbound = []) →
    ((zone s.lane 1).state = .filling → s.lane.inbound ≠ []) →
    let passing : Zone := { zone s.lane k with
      state := .passing, partEnded := !zoneBlocked s k, timer := some ⟨0, s.lane.transferLimit * 10⟩ }
    let started : State := evalReady { s with
      lane := putZone (k + 1) { zone s.lane (k + 1) with state := .filling } (putZone k passing s.lane) }
    (zoneBlocked s (k + 1) = false → laneRule s = some started) ∧
    (∀ r, zoneBlocked s (k + 1) = true → (zone s.lane k).record = some r →
      (k + 1 = s.lane.zoneCount → s.counter.release ≠ .waiting) →
      laneRule s = some (evalReady { started with
        lane := putZone (k + 1) ⟨.held, some r, false, none⟩
          (putZone k (if passing.partEnded then emptyZone else { passing with record := none }) started.lane) }))) ∧
  (∀ (s : State) (i : Fin 8) (level : Bool), Calm s → s.lane.state ≠ .jammed → i.val < s.lane.zoneCount →
    let k := i.val + 1
    let blocked := readsBlocked s.lane.polarity level
    let read : State := { s with pins := { s.pins with zeye := s.pins.zeye.set i level } }
    (blocked = false → k < s.lane.zoneCount → (zone s.lane k).state = .passing →
      exec (.zoneEyeChange i level) s = .next (settleLane (evalReady { read with
        lane := putZone k (if (zone s.lane k).record.isSome then { zone s.lane k with partEnded := true }
          else emptyZone) s.lane }))) ∧
    (∀ r, blocked = true → 2 ≤ k → s.pins.zeye.get i ≠ level → (zone s.lane k).state = .filling →
      (zone s.lane (k - 1)).record = some r → (k = s.lane.zoneCount → s.counter.release ≠ .waiting) →
      exec (.zoneEyeChange i level) s = .next (settleLane (evalReady { read with
        lane := putZone k ⟨.held, some r, false, none⟩ (putZone (k - 1)
          (if (zone s.lane (k - 1)).partEnded then emptyZone else { zone s.lane (k - 1) with record := none })
          s.lane) }))) ∧
    (LaneRests s →
      (blocked = true → 2 ≤ k → k < s.lane.zoneCount → (zone s.lane k).state = .passing →
        exec (.zoneEyeChange i level) s =
          .next { read with lane := putZone k { zone s.lane k with partEnded := false } s.lane }) ∧
      (2 ≤ k ∨ blocked = false → (zone s.lane k).state = .held → exec (.zoneEyeChange i level) s = .next read) ∧
      (blocked = false ∨ s.pins.zeye.get i = level →
        (zone s.lane k).state = .empty ∨ (zone s.lane k).state = .filling →
        exec (.zoneEyeChange i level) s = .next read)))

/-- The lane comes to rest (R117, R122): from a lane whose zones agree, whose inbound list is bounded and that is at rest, every step
leaves it at rest, however many entries, transfers and discharges the step has set off. -/
def Obligations.EveryStepLeavesTheLaneAtRest : Prop :=
  ∀ s t : State, LaneAgrees s.lane → CounterAgrees s → s.lane.inbound.length ≤ 4 → LaneRests s →
    step s = .next t → LaneRests t

/-! ### The Counter Interface (chapter 8) -/

/-- The front record and a complete front order (R135): the front record is that of the highest zone with one; the front order is
complete when that record is single, or when every sequence from 1 to its count stands in some zone in a multi-tote record of its
order. The READY lamp (R142) is lit exactly when the lane is RUNNING, zone Z is HELD and the front order is complete; a change from
dark to lit raises ORDER_READY with the front record's tag, order and count, detail 1 for a single record. With no front record the
lamp goes dark, without an event. -/
def Obligations.ReadyShowsTheFrontOrder : Prop :=
  (∀ l : Lane,
      let single : LaneRecord → Prop := fun r =>
        r.tote.order = 0 ∨ r.tote.count < 2 ∨ 8 < r.tote.count ∨ r.carried = true
      (∀ r, frontRecord l = some r ↔ ∃ k, 1 ≤ k ∧ k ≤ l.zoneCount ∧ (zone l k).record = some r ∧
        ∀ j, k < j → j ≤ l.zoneCount → (zone l j).record = none) ∧
      (frontComplete l = true ↔ ∃ r, frontRecord l = some r ∧ (single r ∨
        ∀ n, 1 ≤ n → n ≤ r.tote.count → ∃ k m, 1 ≤ k ∧ k ≤ l.zoneCount ∧ (zone l k).record = some m ∧
          ¬ single m ∧ m.tote.order = r.tote.order ∧ m.tote.seq = n))) ∧
  (∀ (s : State) (r : LaneRecord), frontRecord s.lane = some r →
      let ready := s.lane.state = .running ∧ (zone s.lane s.lane.zoneCount).state = .held ∧ frontComplete s.lane = true
      let lamp : Bool → State := fun b => { s with counter := { s.counter with readyLit := b } }
      (ready → s.counter.readyLit = false → evalReady s = raise .orderReady
        ⟨r.tote.tag, r.tote.order, if multiTote r then 0 else 1, BitVec.ofNat 16 r.tote.count, s.belt.pos⟩ (lamp true)) ∧
      (ready → s.counter.readyLit = true → evalReady s = s) ∧
      (¬ ready → evalReady s = lamp false)) ∧
  (∀ s : State, frontRecord s.lane = none → evalReady s = { s with counter := { s.counter with readyLit := false } })

/-- BUTTON_CHANGE and WAIT_LAMP_EXPIRY (R136, R143): a low level starts the button timer in ARMED; a high level ends TIMING without
a press and SPENT; any other change is the pin's alone. The end of the WAIT lamp timer puts the lamp out. WAIT_LAMP_EXPIRY does not
ask what the timer has counted: the model's choice (log entry 2). -/
def Obligations.ButtonIsDebounced : Prop :=
  ∀ s : State, Calm s →
    let after : Bool → Counter → StepResult := fun level c =>
      .next { s with pins := { s.pins with relBtn := level }, counter := c }
    (s.counter.button = .armed →
      exec (.buttonChange false) s = after false { s.counter with button := .timing, buttonTimer := some 0 } ∧
      exec (.buttonChange true) s = after true s.counter) ∧
    (s.counter.button = .timing →
      exec (.buttonChange true) s = after true { s.counter with button := .armed, buttonTimer := none } ∧
      exec (.buttonChange false) s = after false s.counter) ∧
    (s.counter.button = .spent →
      exec (.buttonChange true) s = after true { s.counter with button := .armed } ∧
      exec (.buttonChange false) s = after false s.counter) ∧
    exec .waitLampExpiry s = .next { s with counter := { s.counter with waitTimer := none } }

/-- BUTTON_PRESS and RELEASE (R136 to R138, R143, R165): in IDLE the first test that applies refuses the request, lights the WAIT
lamp and raises RELEASE_REFUSED with its source; otherwise zone Z, its eye blocked, is PASSING with the discharge timer at 0 and the
release DISCHARGING with the mode and the group order of the moment; with the eye of zone Z already clear the discharge completes
within the same step, with RELEASED raised before the lane advances (R126, R139); while RELEASING the press waits, or is ignored
when one waits already. The ask is answered with outcome and reason. A press is taken in TIMING whatever the button timer has
counted, outside TIMING it changes nothing, and the answer comes after the notes of the request and of a discharge that completes at
once: the model's choices (log entries 2, 4, 15 and 33). That such a completion is taken whole before the lane advances, and keeps
the mark of a timeout that came together with a completion, are the model's readings (log entries 35 and 38). -/
def Obligations.ReleaseIsRequested : Prop :=
  ∀ s : State, Calm s → LaneRests s → 2 ≤ s.lane.zoneCount → s.lane.zoneCount ≤ 8 →
    let z := zone s.lane s.lane.zoneCount
    let front := frontRecord s.lane
    let reason : Option Nat :=
      if s.lane.state = .jammed then some 1 else if s.lane.state = .paused then some 0
      else if z.state ≠ .held then some 2
      else if s.lane.mode = .order ∧ frontComplete s.lane = false then some 3 else none
    let refused : Nat → Nat → State → State := fun source code u => raise .releaseRefused
      ⟨(front.map fun r => r.tote.tag).getD 0, (front.map fun r => r.tote.order).getD 0, code,
        BitVec.ofNat 16 source, s.belt.pos⟩ { u with counter := { u.counter with waitTimer := some 0 } }
    let started : State → State := fun u => { u with
      lane := { putZone s.lane.zoneCount { z with state := .passing } s.lane with
        discharge := some ⟨0, s.lane.dischargeLimit * 10⟩ }
      counter := { u.counter with
        release := .discharging, mode := s.lane.mode, count := 0, readyLit := false
        group := if s.lane.mode = .order then (front.filter multiTote).map fun r => r.tote.order else none } }
    let group : Option Ident := (started s).counter.group
    let emptied : Lane := { putZone s.lane.zoneCount emptyZone s.lane with
      discharge := none, lateTimeout := s.lane.lateTimeout || timerOut (started s).lane.discharge }
    let more : Bool := match group, frontRecord emptied with
      | some g, some f => multiToteOf g f
      | _, _ => false
    let left : Bool := match group with
      | some g => anyRecord emptied (multiToteOf g)
      | none => false
    let completed : LaneRecord → State → State := fun r u => settleLane (raise .released
      ⟨r.tote.tag, r.tote.order, if more then 1 else if left then 2 else 0, 1, s.belt.pos⟩
      { u with
        lane := emptied
        counter := { u.counter with
          release := if more then .waiting else .idle, mode := s.lane.mode, group := if more then group else none
          count := if more then 1 else 0, pressWaits := false, readyLit := false } })
    let waits : State → State := fun u => { u with counter := { u.counter with pressWaits := true } }
    (s.counter.button = .timing →
      let pressed : State := { s with counter := { s.counter with button := .spent, buttonTimer := none } }
      (∀ code, s.counter.release = .idle → reason = some code →
        exec .buttonPress s = .next (refused 0 code pressed)) ∧
      (s.counter.release = .idle → reason = none → zoneBlocked s s.lane.zoneCount = true →
        exec .buttonPress s = .next (started pressed)) ∧
      (∀ r, s.counter.release = .idle → s.counter.pressWaits = false → reason = none →
        zoneBlocked s s.lane.zoneCount = false → z.record = some r →
        exec .buttonPress s = .next (completed r pressed)) ∧
      (s.counter.release ≠ .idle → exec .buttonPress s = .next (waits pressed))) ∧
    (s.counter.button ≠ .timing → exec .buttonPress s = .next s) ∧
    (∀ a : Ask, Listening s → Mine a.target s → a.fields = [] →
      (∀ code, s.counter.release = .idle → reason = some code →
        exec (.release a) s = .next (answered a 0x33 0 false [3, code] (refused 1 code s))) ∧
      (s.counter.release = .idle → reason = none → zoneBlocked s s.lane.zoneCount = true →
        exec (.release a) s = .next (answered a 0x33 0 false [0, 0] (started s))) ∧
      (∀ r, s.counter.release = .idle → s.counter.pressWaits = false → reason = none →
        zoneBlocked s s.lane.zoneCount = false → z.record = some r →
        exec (.release a) s = .next (answered a 0x33 0 false [0, 0] (completed r s))) ∧
      (s.counter.release ≠ .idle →
        exec (.release a) s =
          .next (answered a 0x33 0 false [if s.counter.pressWaits then 2 else 1, 0] (waits s))))

/-- ZONE_EYE_CHANGE, a clear at zone Z while it is PASSING (R126, R139 to R141): zone Z is EMPTY and the count goes up by one to at
most 255. With a group order, the lane RUNNING and a multi-tote record of the group at the front the release is WAITING, detail
MORE; otherwise it ends, detail PARTIAL when a zone still holds a record of the group and LAST when none does, and a pending press
is refused as EMPTY with source 2 unless the lane is PAUSED. ZONE_EYE_CHANGE, a tote that reaches zone Z while a release is WAITING
(R140): a multi-tote record of the group order on a RUNNING lane is discharged as soon as zone Z is HELD; any other record, or a
lane that is PAUSED, ends the release, and a press that waits is taken anew with source 2. A completion that comes together with its
timeout and is taken first stops the timer (R126); the timeout, taken after it, is the jam that follows in R141, and ends a release
that still runs with the pending press cleared. That both rules are met so is the model's reading (log entry 38). The order of the
events within one step, the lamp before the WAITING watch among them, is the model's (log entries 10, 34 and 35). -/
def Obligations.ReleaseRunsItsCourse : Prop :=
  (∀ (s : State) (i : Fin 8) (level : Bool) (r : LaneRecord), Calm s → 2 ≤ s.lane.zoneCount → i.val + 1 = s.lane.zoneCount →
      s.lane.state ≠ .jammed → readsBlocked s.lane.polarity level = false →
      (zone s.lane s.lane.zoneCount).state = .passing → (zone s.lane s.lane.zoneCount).record = some r →
      let together : Bool := match s.lane.discharge with
        | some t => decide (t.limit ≤ t.elapsed)
        | none => false
      let lane : Lane := { putZone s.lane.zoneCount emptyZone s.lane with
        discharge := none, lateTimeout := s.lane.lateTimeout || together }
      let n := min 255 (s.counter.count + 1)
      let more := s.lane.state = .running ∧
        ∃ g f, s.counter.group = some g ∧ frontRecord lane = some f ∧ multiToteOf g f = true
      let left := ∃ g, s.counter.group = some g ∧ anyRecord lane (multiToteOf g) = true
      let after : Nat → Counter → State := fun detail c => raise .released
        ⟨r.tote.tag, r.tote.order, detail, BitVec.ofNat 16 n, s.belt.pos⟩
        { s with pins := { s.pins with zeye := s.pins.zeye.set i level }, lane := lane, counter := c }
      let idle : Counter := { s.counter with
        release := .idle, group := none, count := 0, pressWaits := false, readyLit := false }
      let settled : State → Prop := fun t => exec (.zoneEyeChange i level) s = .next (settleLane t)
      (more → settled (after 1 { s.counter with release := .waiting, count := n, readyLit := false })) ∧
      (∀ detail, ¬ more → (left ∧ detail = 2 ∨ ¬ left ∧ detail = 0) →
        (s.counter.pressWaits = false ∨ s.lane.state = .paused →
          settled (after detail idle)) ∧
        (s.counter.pressWaits = true → s.lane.state = .running →
          settled (raise .releaseRefused
            ⟨((frontRecord lane).map fun f => f.tote.tag).getD 0, ((frontRecord lane).map fun f => f.tote.order).getD 0, 2,
              2, s.belt.pos⟩
            { after detail idle with counter := { idle with waitTimer := some 0 } }))) ∧
      (together = true → ∃ t u, exec (.zoneEyeChange i level) s = .next t ∧ exec .dischargeTimeout t = .next u ∧
        u.lane.state = .jammed ∧ u.counter.release = .idle ∧ u.counter.group = none ∧ u.counter.pressWaits = false)) ∧
  (∀ (s : State) (i : Fin 8) (level : Bool) (r : LaneRecord) (g : Ident), Calm s → 2 ≤ s.lane.zoneCount →
      i.val + 1 = s.lane.zoneCount → s.lane.state ≠ .jammed →
      readsBlocked s.lane.polarity level = true → s.pins.zeye.get i ≠ level →
      (zone s.lane s.lane.zoneCount).state = .filling → (zone s.lane (s.lane.zoneCount - 1)).record = some r →
      s.counter.release = .waiting → s.counter.group = some g →
      let behind := zone s.lane (s.lane.zoneCount - 1)
      let arrived : State := evalReady { s with
        pins := { s.pins with zeye := s.pins.zeye.set i level }
        lane := putZone s.lane.zoneCount ⟨.held, some r, false, none⟩ (putZone (s.lane.zoneCount - 1)
          (if behind.partEnded then emptyZone else { behind with record := none }) s.lane) }
      (multiToteOf g r = true → s.lane.state = .running →
        exec (.zoneEyeChange i level) s = .next (settleLane { arrived with
          lane := { putZone s.lane.zoneCount ⟨.passing, some r, false, none⟩ arrived.lane with
            discharge := some ⟨0, s.lane.dischargeLimit * 10⟩ }
          counter := { arrived.counter with release := .discharging, readyLit := false } })) ∧
      (multiToteOf g r = false ∨ s.lane.state = .paused →
        let ended : State := { arrived with counter := { arrived.counter with
          release := .idle, group := none, count := 0, pressWaits := false } }
        exec (.zoneEyeChange i level) s =
          .next (settleLane (if s.counter.pressWaits then idleRequest 2 ended else ended))))

/-! ### The Line Port (chapter 9) -/

/-- NUMBER_FRAME, FORWARD_FRAME and FRAME_ERROR (R147, R148, R149, R151): a NUMBER with one value from 1 to 62 gives that ring
position, one with 63 makes the node unnumbered, and the next value goes on; any other NUMBER is refused and counted; ANSWER and
NOTE frames and foreign asks are forwarded as they are. With 4 frames in the forward queue the frame is discarded with LINE_OVERRUN
and its kind code. A complete frame that fails a receive check counts one line error, up to 65,535, and does nothing else; levels
without a start bit are no frame. The frames are operands of the commands (log entry 5). -/
def Obligations.FramesAreForwarded : Prop :=
  ∀ s : State, Listening s →
    let joined : Frame → Nat → State → State := fun f code t =>
      let l : LinePort := { t.line with forward := t.line.forward ++ [f] }
      if t.line.forward.length < 4 then { t with line := if t.line.sending.isNone then pick l else l }
      else raise .lineOverrun ⟨0, 0, 0, BitVec.ofNat 16 code, t.belt.pos⟩ t
    (∀ (f : LineFrame) (v : Byte), f.payload = [v] → 1 ≤ v.toNat → v.toNat ≤ 63 →
      let position : Nat := if v.toNat = 63 then 0 else v.toNat
      let next : Frame := ⟨.number, 0, BitVec.ofNat 8 position, 0, [if v.toNat = 63 then 63 else v + 1]⟩
      exec (.numberFrame f) s =
        .next (joined next 0x01 { s with line := { s.line with position := Fin.ofNat 63 position } })) ∧
    (∀ f : LineFrame, (∀ v : Byte, f.payload = [v] → v.toNat = 0 ∨ 63 < v.toNat) →
      exec (.numberFrame f) s =
        .next { s with line := { s.line with errors := min 65535 (s.line.errors + 1) } }) ∧
    (∀ f : Frame, f.payload.length ≤ 32 →
      (f.kind = .answer → exec (.forwardFrame f) s = .next (joined f 0x11 s)) ∧
      (f.kind = .note → exec (.forwardFrame f) s = .next (joined f 0x12 s)) ∧
      (f.kind = .ask → f.target ≠ 63 → ¬ Mine f.target s → exec (.forwardFrame f) s = .next (joined f 0x10 s))) ∧
    (∀ raw : RawFrame, false ∈ raw.levels → receiveCheck (gather raw) = none → exec (.frameError raw) s =
      .next { s with line := { s.line with errors := min 65535 (s.line.errors + 1) } }) ∧
    (∀ raw : RawFrame, false ∉ raw.levels → exec (.frameError raw) s = .next s)

/-- TRANSMITTER_FREE and the arbiter (R154, R155): the oldest hand-off first; else the oldest forwarded frame, with the credit up by one
while local frames wait, unless the credit is 3; else the oldest local frame, with the credit back to 0. So of the frames sent with no
hand-off waiting, one of the first four is the oldest local frame. TRANSMITTER_FREE ends the present sending without counting its
bits or the idle gap: the model's choice (log entries 2 and 32). -/
def Obligations.ArbiterChoosesByRank : Prop :=
  (∀ s : State, Calm s →
    let l := s.line
    let sends : LinePort → Prop := fun m => exec .transmitterFree s = .next { s with line := m }
    (∀ f rest, l.handOff = f :: rest → sends { l with handOff := rest, sending := some f }) ∧
    (∀ f rest, l.handOff = [] → l.forward = f :: rest → l.localQueue = [] →
      sends { l with forward := rest, sending := some f }) ∧
    (∀ f rest, l.handOff = [] → l.forward = f :: rest → l.localQueue ≠ [] → l.credit < 3 →
      sends { l with forward := rest, sending := some f, credit := l.credit + 1 }) ∧
    (∀ g rest, l.handOff = [] → l.forward = [] ∨ 3 ≤ l.credit → l.localQueue = g :: rest →
      sends { l with localQueue := rest, sending := some g, credit := 0 }) ∧
    (l.handOff = [] → l.forward = [] → l.localQueue = [] → sends { l with sending := none })) ∧
  (∀ (l : LinePort) (g : Frame) (rest : List Frame), l.handOff = [] → l.localQueue = g :: rest →
    ∃ n, n ≤ 3 ∧ (pick^[n + 1] l).sending = some g ∧ (pick^[n + 1] l).localQueue = rest)

/-- LOS_CHANGE and RECEIVER_IDLE_WAIT_END (R145): the link state follows LOS with LINK_CHANGE, a frame partly received at a loss is
counted before it, and the receiver waits for its idle; the idle is seen only with the link UP. Whether a frame was partly received
is an operand (log entry 6), and the end of the idle wait is taken without counting bit times (log entry 2). -/
def Obligations.LinkFollowsLos : Prop :=
  ∀ s : State, Calm s →
    let pin : Bool → State := fun level => { s with pins := { s.pins with los := level } }
    (∀ partly, s.line.link = .up →
      let errors := if partly && s.line.receiverReady then min 65535 (s.line.errors + 1) else s.line.errors
      exec (.losChange true partly) s = .next (raise .linkChange ⟨0, 0, 0, BitVec.ofNat 16 errors, s.belt.pos⟩
        { pin true with line := { s.line with link := .down, errors := errors, receiverReady := false } }) ∧
      exec (.losChange false partly) s = .next (pin false) ∧
      exec .receiverIdleWaitEnd s = .next { s with line := { s.line with receiverReady := true } }) ∧
    (∀ partly, s.line.link = .down →
      exec (.losChange false partly) s =
        .next (raise .linkChange ⟨0, 0, 1, BitVec.ofNat 16 s.line.errors, s.belt.pos⟩
          { pin false with line := { s.line with link := .up, receiverReady := false } }) ∧
      exec (.losChange true partly) s = .next (pin true) ∧
      exec .receiverIdleWaitEnd s = .next s)

/-- The frame on the line. A byte is a low start bit, its eight bits with the least significant first and a high stop bit, and the
receiver gathers from such levels exactly the bytes sent; a low stop bit is a framing error after which it takes no more, and so is no
byte after the 41st (R146). The check takes each bit by a shift, combined with 1021h when the bit shifted out differs from it, from
FFFFh and the most significant bit of each byte first (R159). A frame is its sync, header, length, payload and check (Table 9-5), and
the receive checks take exactly the bytes of a frame with at most 32 payload bytes, received without a framing error, and give that
frame (R147). -/
def Obligations.ReceiveChecksTakeFrames : Prop :=
  (∀ b : Byte, byteLevels b = [false, b.getLsbD 0, b.getLsbD 1, b.getLsbD 2, b.getLsbD 3, b.getLsbD 4, b.getLsbD 5,
    b.getLsbD 6, b.getLsbD 7, true]) ∧
  (∀ bs : List Byte, bs.length ≤ 41 → gather ⟨bs.flatMap byteLevels⟩ = ⟨bs, false⟩) ∧
  (∀ (bs : List Byte) (data rest : List Bool), bs.length ≤ 40 → data.length = 8 →
    gather ⟨bs.flatMap byteLevels ++ false :: data ++ false :: rest⟩ = ⟨bs, true⟩) ∧
  (∀ bs more : List Byte, bs.length = 41 → gather ⟨(bs ++ more).flatMap byteLevels⟩ = ⟨bs, false⟩) ∧
  (∀ (reg : BitVec 16) (data : Bool) (i : Nat), i < 16 →
    (crcBit reg data).getLsbD i =
      ((decide (0 < i) && reg.getLsbD (i - 1)) ^^ ((reg.getLsbD 15 ^^ data) && (0x1021#16).getLsbD i))) ∧
  (∀ (reg : BitVec 16) (b : Byte), crcByte reg b = ((List.range 8).reverse.map b.getLsbD).foldl crcBit reg) ∧
  crc [] = 0xFFFF#16 ∧ (∀ (bs : List Byte) (b : Byte), crc (bs ++ [b]) = crcByte (crc bs) b) ∧
  (∀ f : Frame,
    let kind : Byte := match f.kind with
      | .number => 0x01 | .tote => 0x02 | .ask => 0x10 | .answer => 0x11 | .note => 0x12
    let body := [kind, f.target, f.source, f.tag, BitVec.ofNat 8 f.payload.length] ++ f.payload
    frameBytes f = 0xA5 :: body ++ [(crc body).extractLsb' 8 8, (crc body).extractLsb' 0 8]) ∧
  (∀ (got : Gathered) (f : Frame),
    receiveCheck got = some f ↔ got.framingError = false ∧ f.payload.length ≤ 32 ∧ got.bytes = frameBytes f)

/-! ### Asks (chapter 10) -/

/-- How an ask finds its node (R148, R150, R160): UNKNOWN_ASK answers an unknown code with result UNKNOWN_ASK and no code with
BAD_LENGTH and code 00h, and forwards it, unseen by the Request Unit, for every other target and for target 63; a wrong length is
answered BAD_LENGTH by every ask of Table 9-9 and changes no block; an ask for another target is forwarded; one with target 63 is
carried out, without an answer, when it is a broadcast ask of a right length, and is forwarded in every case. With 4 frames in the
forward queue a frame to forward is discarded with LINE_OVERRUN and the kind code of an ask (R151). A broadcast is acted on before it is
forwarded: the model's choice (log entry 14). -/
def Obligations.AsksFindTheirNode : Prop :=
  let joined : Frame → State → State := fun f t =>
    let l : LinePort := { t.line with forward := t.line.forward ++ [f] }
    if t.line.forward.length < 4 then { t with line := if t.line.sending.isNone then pick l else l }
    else raise .lineOverrun ⟨0, 0, 0, 0x10, t.belt.pos⟩ t
  (∀ (f : LineFrame) (s : State), Listening s → Mine f.target s → f.payload.length ≤ 32 →
    let a : Ask := ⟨f.target, f.source, f.tag, f.payload.tail⟩
    (f.payload = [] → exec (.unknownAsk f) s = .next (answered a 0 1 false [] s)) ∧
    (∀ b rest, f.payload = b :: rest → askOfByte b = none →
      exec (.unknownAsk f) s = .next (answered a b.toNat 4 false [] s))) ∧
  (∀ (f : LineFrame) (s : State), Listening s → ¬ Mine f.target s → f.payload.length ≤ 32 →
    (∀ b ∈ f.payload.head?, askOfByte b = none) →
    exec (.unknownAsk f) s = .next (joined ⟨.ask, f.target, f.source, f.tag, f.payload⟩ s)) ∧
  (∀ (code : AskCode) (a : Ask) (s : State), Listening s → a.fields.length < 32 →
      let frame : Frame := ⟨.ask, a.target, a.source, a.tag, code.code :: a.fields⟩
      (Mine a.target s → code.lengthOk a.fields.length = false →
        exec (askCommand code a) s = .next (answered a code.code.toNat 1 false [] s)) ∧
      (a.target ≠ 63 → ¬ Mine a.target s → exec (askCommand code a) s = .next (joined frame s)) ∧
      (a.target = 63 → exec (askCommand code a) s = .next (joined frame
        (if code ∈ [.swapPlan, .copyPlan, .setReports, .clearFlags, .pauseLane, .resumeLane, .nodeReset] ∧
            code.lengthOk a.fields.length = true then
          (askEffect code a.fields s).1
        else s))))

/-- READ_STATUS, READ_IDENTITY, READ_TRACKING, READ_LANE and READ_RESERVATIONS (R161 to R163): each answers with its record as it
stands and changes nothing but what its answer does; an unknown part, or a first zone of 0, is BAD_VALUE. An answer of any ask
(R153, R160) joins the tail of the local queue, from which a free transmitter picks at once; with 8 frames there it is dropped and
REPORTS_LOST is set. A first zone above 8 returns none (log entry 18). -/
def Obligations.ReadsAnswerTheirRecords : Prop :=
  ∀ (a : Ask) (s : State), Listening s → Mine a.target s →
    let mark : Bool → Nat := fun b => if b then 1 else 0
    let tote : ToteFields → List Nat := fun t =>
      [t.tag.toNat / 256, t.tag.toNat, t.order.toNat / 256, t.order.toNat, (t.dest.map (·.val)).getD 255, t.cls.val, t.seq,
        t.count, t.refusals, t.source.toNat, mark t.adjusted]
    let pos : Pos → List Nat := fun p => [p.toNat / 65536, p.toNat / 256, p.toNat]
    let inbound : Nat → List Nat := fun i =>
      match s.lane.inbound[i]? with
      | some r => 1 :: tote r.record.tote ++ [mark r.record.carried] ++ pos r.deadline
      | none => [0]
    (∀ (code result : Nat) (clamped : Bool) (fields : List Nat) (t : State),
      let frame : Frame :=
        { kind := .answer, target := 0, source := BitVec.ofNat 8 t.line.position.val, tag := a.tag
          payload := (code :: result :: mark clamped :: fields).map (BitVec.ofNat 8) }
      let l : LinePort := { t.line with localQueue := t.line.localQueue ++ [frame] }
      (t.line.localQueue.length < 8 →
        answered a code result clamped fields t = { t with line := if l.sending.isNone then pick l else l }) ∧
      (8 ≤ t.line.localQueue.length →
        answered a code result clamped fields t = { t with report := { t.report with lost := true } })) ∧
    (a.fields = [] →
      exec (.readStatus a) s = .next (answered a 0x01 0 false
        ([s.report.cause.code, s.line.link.code, s.belt.state.code, s.belt.speed / 256, s.belt.speed] ++ pos s.belt.pos ++
          [s.diverter.state.code, s.lane.state.code, held s.lane, s.lane.inbound.length, reserved s.admission,
            s.tracking.queue.length, s.plan.active.code, s.plan.write.cell.dest.val, s.plan.write.cell.cls.val,
            mark s.plan.write.done, s.report.flags.toNat / 65536, s.report.flags.toNat / 256, s.report.flags.toNat,
            mark s.report.lost, s.line.errors / 256, s.line.errors]) s) ∧
      exec (.readIdentity a) s =
        .next (answered a 0x02 0 false [0x57, 0x0C, 0x44, 1, 1, 64, 4, 16, 4, 8, 4] s) ∧
      exec (.readReservations a) s = .next (answered a 0x05 0 false (s.admission.table.length ::
        s.admission.table.flatMap fun r => [r.order.toNat / 256, r.order.toNat, r.zones] ++ pos r.expiry) s)) ∧
    (∀ first part : Byte, a.fields = [first, part] →
      let records := (s.tracking.queue.drop first.toNat).take 2
      exec (.readTracking a) s = .next (
        if part.toNat ≤ 1 then answered a 0x03 0 false (s.tracking.queue.length :: records.length ::
          records.flatMap fun r =>
            if part = 0 then tote r.tote else pos r.expected ++ pos r.windowStart ++ pos r.windowEnd) s
        else answered a 0x03 2 false [] s)) ∧
    (∀ part first : Byte, a.fields = [part, first] →
      let zones := ([first.toNat, first.toNat + 1].filter (· ≤ s.lane.zoneCount)).map (zone s.lane)
      exec (.readLane a) s = .next (
        if part = 0 ∧ first ≠ 0 then
          answered a 0x04 0 false (s.lane.state.code :: s.lane.zoneCount :: zones.length :: zones.flatMap fun z =>
            (match z.state with
              | .empty => 0 | .filling => 1 | .held => 2 | .passing => if z.record = none then 4 else 3) ::
            (match z.record with
              | some r => tote r.tote ++ [mark r.carried]
              | none => List.replicate 12 0)) s
        else if part = 1 then answered a 0x04 0 false (s.lane.inbound.length :: inbound first.toNat) s
        else answered a 0x04 2 false [] s))

/-- SET_GEOMETRY (R92): a format version other than 1 is BAD_FORMAT and changes nothing; otherwise each field is clamped to its range,
the whole descriptor is replaced, the answer returns it, and the diverter state, its positions and a running phase are kept. -/
def Obligations.GeometryIsReplaced : Prop :=
  ∀ (a : Ask) (s : State) (version e0 e1 throw floor margin home homeFloor grace duty : Byte),
    Listening s → Mine a.target s →
    a.fields = [version, e0, e1, throw, floor, margin, home, homeFloor, grace, duty] →
    let e := e0.toNat * 256 + e1.toNat
    let g : Geometry :=
      { eyeToPaddle := min e 4095, throwTime := max 1 throw.toNat, throwFloor := floor.toNat, margin := margin.toNat
        returnTime := max 1 home.toNat, returnFloor := homeFloor.toNat, grace := grace.toNat
        holdDuty := max 1 (min duty.toNat 16) }
    exec (.setGeometry a) s = .next (
      if version = 1 then
        answered a 0x20 0 (decide (4095 < e ∨ throw = 0 ∨ home = 0 ∨ duty = 0 ∨ 16 < duty.toNat))
          [1, g.eyeToPaddle / 256, g.eyeToPaddle, g.throwTime, g.throwFloor, g.margin, g.returnTime, g.returnFloor, g.grace,
            g.holdDuty] { s with diverter := { s.diverter with geometry := g } }
      else answered a 0x20 5 false [] s)

/-- SET_LINE (R2, R10, R13, R26, R46, R90, R164): an unknown code refuses the whole ask; otherwise every field is taken after
clamping, a new G starts the gate anew with P, S and the belt state kept, and a new polarity ends the tote at the eye, with its
trailing position delivered if its outcome calls for it, and reads the eye anew. The tote is ended under the settings just applied
(log entry 12). -/
def Obligations.LineSettingsAreApplied : Prop :=
  ∀ (a : Ask) (s : State), Listening s → Mine a.target s → a.fields.length = 26 → EyeAgrees s.eye →
    let f1 : Nat → Nat := fun i => (a.fields.getD i 0).toNat
    let f2 : Nat → Nat := fun i => f1 i * 256 + f1 (i + 1)
    let within : Nat → Nat → Nat → Nat := fun lo hi v => if v < lo then lo else if hi < v then hi else v
    (2 < f1 0 ∨ 3 < f1 1 ∨ 1 < f1 2 → exec (.setLine a) s = .next (answered a 0x21 2 false [] s)) ∧
    (f1 0 ≤ 2 → f1 1 ≤ 3 → f1 2 ≤ 1 → ∃ t fields clamped,
      exec (.setLine a) s = .next (answered a 0x21 0 clamped fields t) ∧
      t.belt.edgeSelect.code = f1 0 ∧ t.belt.gate.code = f1 1 ∧ t.eye.polarity.code = f1 2 ∧
      t.belt = { s.belt with
        edgeSelect := t.belt.edgeSelect, gate := t.belt.gate
        acc := if s.belt.gate.code = f1 1 then s.belt.acc else 0
        timer := if s.belt.gate.code = f1 1 then s.belt.timer else 0 } ∧
      t.eye.debounce = within 1 63 (f1 3) ∧ t.eye.maxLength = within 16 4095 (f2 4) ∧
      (∀ c : Fin 4, t.eye.nominal.get c = within 1 4095 (f2 (6 + 2 * c.val))) ∧ t.eye.tolerance = min (f2 14) 1023 ∧
      t.tracking = { s.tracking with
        upstream := max 1 (f2 16), early := min (f2 18) 4095, late := min (f2 20) 4095 } ∧
      t.admission = { s.admission with
        refusalLimit := within 1 15 (f1 22)
        span := within 1 8388607 ((f1 23 * 256 + f1 24) * 256 + f1 25) } ∧
      (clamped = true ↔ fields ≠ (List.range 26).map f1) ∧
      fields = [f1 0, f1 1, f1 2, t.eye.debounce, t.eye.maxLength / 256 % 256, t.eye.maxLength % 256] ++
        ((List.finRange 4).flatMap fun c => [t.eye.nominal.get c / 256 % 256, t.eye.nominal.get c % 256]) ++
        [t.eye.tolerance / 256 % 256, t.eye.tolerance % 256, t.tracking.upstream / 256 % 256,
          t.tracking.upstream % 256, t.tracking.early / 256 % 256, t.tracking.early % 256,
          t.tracking.late / 256 % 256, t.tracking.late % 256, t.admission.refusalLimit,
          t.admission.span / 65536 % 256, t.admission.span / 256 % 256, t.admission.span % 256] ∧
      (t.plan, t.lane, t.counter, t.line, t.report, t.pins, t.resetLow, t.pending) =
        (s.plan, s.lane, s.counter, s.line, s.report, s.pins, s.resetLow, s.pending) ∧
      (s.eye.polarity.code = f1 2 → t.diverter = s.diverter ∧
        (t.eye.state, t.eye.lead, t.eye.clearing, t.eye.debounceEnd, t.eye.blockedDeadline, t.eye.context) =
        (s.eye.state, s.eye.lead, s.eye.clearing, s.eye.debounceEnd, s.eye.blockedDeadline, s.eye.context)) ∧
      (s.eye.polarity.code ≠ f1 2 →
        (t.eye.lead, t.eye.clearing, t.eye.debounceEnd) = (none, none, none) ∧
        (readsBlocked t.eye.polarity s.pins.eye = true →
          (t.eye.state, t.eye.context) = (.blocked, .noLead) ∧
          t.eye.blockedDeadline = some ⟨plus s.belt.pos t.eye.maxLength, t.eye.maxLength⟩) ∧
        (readsBlocked t.eye.polarity s.pins.eye = false →
          (t.eye.state, t.eye.context, t.eye.blockedDeadline) = (.clear, .empty, none)) ∧
        t.diverter = (if deliversTrail s.eye.context then
            (trailingTaken (s.eye.clearing.getD s.belt.pos) { s with belt := t.belt }).diverter
          else s.diverter)))

/-- SET_LANE (R88, R131, R132): a wrong structure is BAD_VALUE; a change of Z or of the classes with a record in the lane or the
inbound list is BAD_STATE; otherwise every field is taken after clamping. With the polarity kept the zones stand, or are all EMPTY
under a new Z, whose loss of room is trimmed; a change of the polarity outside JAMMED stops the timers, cancels a discharge and
rescans. With a new Z and a new polarity the trim is the rescan's, the answer comes after the notes of the trim or the rescan, and a
release that is WAITING goes on through the rescan: the model's choices (log entries 13, 15 and 22). -/
def Obligations.LaneSettingsAreApplied : Prop :=
  ∀ (a : Ask) (s : State) (z classes mode t0 t1 d0 d1 e0 e1 polarity : Byte), Listening s → Mine a.target s →
    LaneRests s → LampTrue s → LaneAgrees s.lane → RoomKept s →
    a.fields = [z, classes, mode, t0, t1, d0, d1, e0, e1, polarity] →
    let right := 2 ≤ z.toNat ∧ z.toNat ≤ 8 ∧ 1 ≤ classes.toNat ∧ classes.toNat ≤ 15 ∧ mode.toNat ≤ 1 ∧
      polarity.toNat ≤ 1
    let sameRoom := z.toNat = s.lane.zoneCount ∧ classes.toNat = s.lane.accepted.toNat
    let idle := held s.lane = 0 ∧ s.lane.inbound = []
    let within : Nat → Nat → Nat → Nat := fun lo hi v => if v < lo then lo else if hi < v then hi else v
    let transfer := within 10 500 (t0.toNat * 256 + t1.toNat)
    let discharge := within 10 500 (d0.toNat * 256 + d1.toNat)
    let entry := within 1 4095 (e0.toNat * 256 + e1.toNat)
    let settings : Lane := { s.lane with
      zoneCount := z.toNat, accepted := BitVec.ofNat 4 classes.toNat, mode := if mode = 0 then .tote else .order
      transferLimit := transfer, dischargeLimit := discharge, entryDistance := entry
      polarity := if polarity = 0 then .blockedLow else .blockedHigh }
    let fields := [z.toNat, classes.toNat, mode.toNat, transfer / 256, transfer, discharge / 256, discharge,
      entry / 256, entry, polarity.toNat]
    let clamped := decide (transfer ≠ t0.toNat * 256 + t1.toNat ∨ discharge ≠ d0.toNat * 256 + d1.toNat ∨
      entry ≠ e0.toNat * 256 + e1.toNat)
    let done : State → StepResult := fun t => .next (answered a 0x22 0 clamped fields t)
    (¬ right → exec (.setLane a) s = .next (answered a 0x22 2 false [] s)) ∧
    (right → ¬ sameRoom → ¬ idle → exec (.setLane a) s = .next (answered a 0x22 3 false [] s)) ∧
    (right → z.toNat = s.lane.zoneCount → sameRoom ∨ idle → settings.polarity = s.lane.polarity ∨ s.lane.state = .jammed →
      exec (.setLane a) s = done { s with lane := settings }) ∧
    (right → z.toNat ≠ s.lane.zoneCount → idle → settings.polarity = s.lane.polarity ∨ s.lane.state = .jammed →
      exec (.setLane a) s = done (trim { s with
        lane := { settings with zones := Vector.replicate 8 emptyZone, discharge := none, lateTimeout := false }
        counter := { s.counter with readyLit := false } })) ∧
    (right → sameRoom ∨ idle → settings.polarity ≠ s.lane.polarity → s.lane.state ≠ .jammed →
      exec (.setLane a) s = done (rescanInPlace { s with
        lane := { settings with
          zones :=
            if z.toNat = s.lane.zoneCount then s.lane.zones.map fun q => { q with timer := none }
            else Vector.replicate 8 emptyZone
          discharge := none
          lateTimeout := false }
        counter :=
          if s.counter.release = .discharging then
            { s.counter with release := .idle, group := none, count := 0, pressWaits := false }
          else s.counter }))

/-- SET_REPORTS and CLEAR_FLAGS (R168, R169): a bit above kind 21, a global code above 1 or an extra clear above bit 1 is BAD_VALUE;
otherwise all enables are replaced, or the flags named are cleared with REPORTS_LOST and the line error count as the extra clears say. -/
def Obligations.ReportsAndFlagsAreSet : Prop :=
  ∀ (a : Ask) (s : State) (w x y z : Byte), Listening s → Mine a.target s → a.fields = [w, x, y, z] →
    let enables := (x.toNat * 256 + y.toNat) * 256 + z.toNat
    let named := (w.toNat * 256 + x.toNat) * 256 + y.toNat
    exec (.setReports a) s = .next (
      if w.toNat ≤ 1 ∧ enables < 2 ^ 21 then
        answered a 0x23 0 false [w.toNat, x.toNat, y.toNat, z.toNat] { s with report := { s.report with
          globalEnable := decide (w = 1), enables := BitVec.ofNat 21 enables } }
      else answered a 0x23 2 false [] s) ∧
    (named < 2 ^ 21 → z.toNat ≤ 3 →
      let flags := s.report.flags &&& ~~~(BitVec.ofNat 21 named)
      let lost := s.report.lost && !z.getLsbD 0
      let errors := if z.getLsbD 1 then 0 else s.line.errors
      exec (.clearFlags a) s = .next (answered a 0x24 0 false
        [flags.toNat / 65536, flags.toNat / 256, flags.toNat, if lost then 1 else 0, errors / 256, errors]
        { s with report := { s.report with flags := flags, lost := lost }, line := { s.line with errors := errors } })) ∧
    (2 ^ 21 ≤ named ∨ 3 < z.toNat → exec (.clearFlags a) s = .next (answered a 0x24 2 false [] s))

/-- PAUSE_LANE, RESUME_LANE and CLEAR_FAULT (R109, R129, R130, R141, R165): a pause and a resume change RUNNING and PAUSED, are
BAD_STATE in JAMMED, and a pause ends a release that is WAITING; CLEAR FAULT starts a home check of a diverter in FAULT, rescans a
JAMMED lane and sets it RUNNING, leaves a block that is not in fault as it is, and is BAD_VALUE for blocks other than 1 to 3. The
order of CLEAR FAULT's parts, of its notes before an ORDER_READY, and of an answer after its notes is the model's (log entries 11, 15
and 39). -/
def Obligations.PauseResumeAndClearFault : Prop :=
  ∀ (a : Ask) (s : State), Listening s → Mine a.target s →
    let laneSet : LaneState → Counter → State := fun l c => { s with lane := { s.lane with state := l }, counter := c }
    let paused : Counter := { s.counter with readyLit := false }
    (a.fields = [] →
      (s.lane.state = .running → exec (.pauseLane a) s = .next (answered a 0x31 0 false [1] (laneSet .paused
          (if s.counter.release = .waiting then
            { paused with release := .idle, group := none, count := 0, pressWaits := false } else paused))) ∧
        exec (.resumeLane a) s = .next (answered a 0x32 0 false [0] s)) ∧
      (s.lane.state = .paused → exec (.pauseLane a) s = .next (answered a 0x31 0 false [1] s) ∧
        exec (.resumeLane a) s = .next (answered a 0x32 0 false [0] (evalReady (laneSet .running s.counter)))) ∧
      (s.lane.state = .jammed → exec (.pauseLane a) s = .next (answered a 0x31 3 false [] s) ∧
        exec (.resumeLane a) s = .next (answered a 0x32 3 false [] s))) ∧
    (∀ blocks : Byte, a.fields = [blocks] →
      let checked : State :=
        if (blocks = 1 ∨ blocks = 3) ∧ s.diverter.state = .fault then
          { s with diverter := { s.diverter with
            state := .returning, fire := none, release := none, clear := none, flag := false
            phase := some ⟨.returning, 0, s.diverter.geometry.returnTime, 0⟩ } }
        else s
      let cleared : State :=
        if (blocks = 2 ∨ blocks = 3) ∧ s.lane.state = .jammed then
          let t := rescan checked
          settleLane (evalReady { t with lane := { t.lane with state := .running } })
        else checked
      exec (.clearFault a) s = .next (
        if 1 ≤ blocks.toNat ∧ blocks.toNat ≤ 3 then
          answered a 0x30 0 false [cleared.diverter.state.code, cleared.lane.state.code] cleared
        else answered a 0x30 2 false [] s))

/-! ### Resets -/

/-- The node after a node reset (R14, R27, R49, R69, R91, R113, R128, R134, R144, R157, R158, R166, R170): P, S, the belt state,
every setting and the whole Route Plan are kept; the gate starts anew; the eye is read afresh; the tracking queue, the reservations
and the inbound list are empty; a home check starts; a zone whose eye reads blocked is HELD with the record it held, or an anonymous
one, and any other zone is EMPTY; no release is under way. The Line Port empties the local queue and sets the credit to 0, and from
RESET_N also cuts the transmitter off, waits for the idle, and takes the link state afresh from LOS, with LINK_CHANGE on a change
(R157, R158). The Report Unit clears its flags, keeps its enables and sets the cause (R170). The lamp is then evaluated and the lane
advances of itself, and with every zone eye clear nothing is left to do. The reset from RESET_N is taken whole at its release, with
LINK_CHANGE before the arbiter and before the notes of the rescan: the model's reading and choice (log entries 9, 27 and 39). -/
def Obligations.NodeResetKeepsAndLoses : Prop :=
  ∀ s : State,
    let blocked := readsBlocked s.eye.polarity s.pins.eye
    let found : Vector Zone 8 := Vector.ofFn fun i =>
      if i.val < s.lane.zoneCount ∧ zoneBlocked s (i.val + 1) = true then
        ⟨.held, some ((zone s.lane (i.val + 1)).record.getD ⟨anonymousFields, false⟩), false, none⟩
      else emptyZone
    let reset : State := { s with
      belt := { s.belt with acc := 0, timer := 0 }
      eye := { s.eye with
        state := if blocked then .blocked else .clear, lead := none, clearing := none, debounceEnd := none
        blockedDeadline := if blocked then some ⟨plus s.belt.pos s.eye.maxLength, s.eye.maxLength⟩ else none
        context := if blocked then .noLead else .empty }
      tracking := { s.tracking with queue := [], headDeadline := none }
      admission := { s.admission with table := [] }
      diverter := { s.diverter with
        state := .returning, fire := none, release := none, clear := none, flag := false
        phase := some ⟨.returning, 0, s.diverter.geometry.returnTime, 0⟩ }
      lane := { s.lane with
        state := if s.lane.state = .jammed then .running else s.lane.state
        zones := found, inbound := [], discharge := none, lateTimeout := false }
      counter := ⟨.idle, s.lane.mode, none, 0, false, if s.pins.relBtn then .armed else .spent, none, none, false⟩ }
    let settled : State → StepResult := fun t => .next (settleLane (evalReady t))
    (∀ a : Ask, Listening s → Mine a.target s → a.fields = [] →
      exec (.nodeReset a) s = settled (answered a 0x3F 0 false [] { reset with
        report := { s.report with flags := 0, lost := false, cause := .nodeReset }
        line := { s.line with localQueue := [], credit := 0 } })) ∧
    (s.resetLow = true → s.line.link = (if s.pins.los then .down else .up) →
      exec .resetPinRelease s = settled { reset with
        resetLow := false
        report := { s.report with flags := 0, lost := false, cause := .resetPin }
        line := pick { s.line with localQueue := [], credit := 0, sending := none, receiverReady := false } }) ∧
    (∀ link, s.resetLow = true → link = (if s.pins.los then .down else .up) → s.line.link ≠ link →
      let noted : State := raise .linkChange ⟨0, 0, link.code, BitVec.ofNat 16 s.line.errors, s.belt.pos⟩ { s with
        report := { s.report with flags := 0, lost := false, cause := .resetPin }
        line := { s.line with
          link := link, localQueue := [], credit := 0, sending := none, receiverReady := false } }
      exec .resetPinRelease s = settled { reset with
        resetLow := false, report := noted.report, line := arbitrate noted.line }) ∧
    ((∀ k, 1 ≤ k → k ≤ s.lane.zoneCount → zoneBlocked s k = false) →
      found = Vector.replicate 8 emptyZone ∧
      ∀ t : State, t.lane = reset.lane → t.counter = reset.counter → settled t = .next t)

/-- RESET_N low (R4, R158): RESET_PIN_ASSERT cuts the transmitter off and changes nothing else; while RESET_N is low no command but
POWER_ON and RESET_PIN_RELEASE changes anything but the input pins and, at a counted edge, P and the reference level. That the rest
waits for the release is the model's reading (log entry 9). -/
def Obligations.ResetPinHoldsTheNode : Prop :=
  (∀ s : State, Calm s →
    exec .resetPinAssert s = .next { s with resetLow := true, line := { s.line with sending := none } }) ∧
  (∀ (c : Instr) (s t : State), s.resetLow = true → exec c s = .next t →
    (∀ enc levels, c ≠ .powerOn enc levels) → c ≠ .resetPinRelease →
    t = { s with pins := t.pins, belt := { s.belt with pos := t.belt.pos, encRef := t.belt.encRef } })

/-- POWER_ON. The Route Plan and the Line Port (R68, R156): every cell of both banks is PASS, bank A is active, the window is whole with
CLASS_FIRST and both cursors at destination 0, class 0, not done; ring position, error count and credit are 0, the queues are empty,
the transmitter is free with TXD idle, the link state is that of LOS and the receiver waits for its idle. The whole node (R14, R27,
R48, R91, R112, R128, R133, R144, R170) is the reset state with its inputs sampled: a blocked eye has a context of kind NO_LEAD, an
active button is SPENT, a zone whose eye is blocked is HELD with an anonymous record, and the waiting commands stay in their queue;
the lamp is then evaluated and the lane advances at once, and with every zone eye clear nothing is left to do. That RESET_N is then
high is the model's choice (log entry 8). -/
def Obligations.PowerOnLoadsEverySetting : Prop :=
  (∀ (enc : Bool) (levels : InputLevels) (s : State), ∃ t, exec (.powerOn enc levels) s = .next t ∧
      (∀ bank c, cellOf (bankCells t.plan bank) c = .pass) ∧ (∀ dest cls, lookup t.plan dest cls = .pass) ∧
      t.plan.active = .a ∧ (t.plan.d0, t.plan.d1, t.plan.c0, t.plan.c1) = (0, 63, 0, 3) ∧ t.plan.order = .classFirst ∧
      t.plan.write = ⟨⟨0, 0⟩, false⟩ ∧ t.plan.read = ⟨⟨0, 0⟩, false⟩ ∧
      t.line = ⟨if levels.los then .down else .up, 0, 0, [], [], [], 0, none, false⟩ ∧ txd t = none) ∧
  (∀ (enc : Bool) (levels : InputLevels) (s : State),
      let on : Vector Zone 8 → State := fun zones =>
        { belt := ⟨.rising, .ms64, 0, 0, 0, 0, .stopped, enc⟩
          eye := { State.reset.eye with
            polarity := .blockedLow, debounce := 8, maxLength := 1200, nominal := #v[400, 800, 400, 400], tolerance := 60
            state := if levels.eye then .clear else .blocked
            blockedDeadline := if levels.eye then none else some ⟨1200, 1200⟩
            context := if levels.eye then .empty else .noLead }
          tracking := ⟨2000, 100, 100, [], none⟩
          plan := State.reset.plan
          admission := ⟨3, 40000, []⟩
          diverter := ⟨⟨600, 90, 40, 30, 70, 20, 50, 6⟩, .returning, some ⟨.returning, 0, 70, 0⟩, none, none, none, false, 6⟩
          lane := ⟨4, 15, .tote, 150, 200, 900, .blockedLow, .running, zones, [], none, false⟩
          counter := ⟨.idle, .tote, none, 0, false, if levels.relBtn then .armed else .spent, none, none, false⟩
          line := { State.reset.line with link := if levels.los then .down else .up }
          report := ⟨0, 0, false, false, .powerOn⟩
          pins := levels
          resetLow := false
          pending := s.pending }
      exec (.powerOn enc levels) s = .next (settleLane (evalReady (on (Vector.ofFn fun i =>
        if i.val < 4 ∧ levels.zeye.get i = false then ⟨.held, some ⟨anonymousFields, false⟩, false, none⟩
        else emptyZone)))) ∧
      ((∀ k : Fin 4, levels.zeye.get ⟨k.val, by omega⟩ = true) →
        exec (.powerOn enc levels) s = .next (on (Vector.replicate 8 emptyZone))))

/-! ### What every step keeps -/

/-- Every step keeps the depths of the queues and the limit of the credit count (R29, R84, R116, R151, R152, R153, R155). -/
def Obligations.QueuesStayBounded : Prop :=
  ∀ s t : State, QueuesBounded s → step s = .next t → QueuesBounded t

/-- Every step keeps the reservation entries right, and held + inbound + reserved at most Z (R84, R88), where no TOTE record has a
sequence above its count, which every step keeps (EverythingStaysInRange). -/
def Obligations.RoomIsKept : Prop :=
  ∀ s t : State, ReservationsRight s.admission → RoomKept s → TotesInRange s → 2 ≤ s.lane.zoneCount → s.lane.zoneCount ≤ 8 →
    step s = .next t → ReservationsRight t.admission ∧ RoomKept t

/-- Every step keeps every setting, S, the error count and the discharge count in its range, and every TOTE field of every record in
the range that normalisation gives it (Tables 1-1, 2-1, 3-1, 3-2, 5-1, 6-1 and 7-1; R8, R31, R139, R147). -/
def Obligations.EverythingStaysInRange : Prop :=
  ∀ s t : State, InRange s → TotesInRange s → step s = .next t → InRange t ∧ TotesInRange t

/-- Every step keeps the Eye Unit, the head deadline, the Diverter Drive and the two cursors in agreement with their own states (Tables
2-2, 2-3 and 6-2; R35, R53, R96). -/
def Obligations.BlocksAgreeWithThemselves : Prop :=
  ∀ s t : State, EyeAgrees s.eye → HeadWatched s.tracking → DriveAgrees s.diverter → PlanOrdered s.plan →
    step s = .next t →
    EyeAgrees t.eye ∧ HeadWatched t.tracking ∧ DriveAgrees t.diverter ∧ PlanOrdered t.plan

/-- Every step keeps the zones, their timers and the Counter Interface in agreement, and the READY lamp true (R114, R122, R123, R126,
R136 to R142). -/
def Obligations.LaneAgreesWithCounter : Prop :=
  ∀ s t : State, LaneAgrees s.lane → CounterAgrees s → LampTrue s → step s = .next t →
    LaneAgrees t.lane ∧ CounterAgrees t ∧ LampTrue t

/-- The reset state has every property that the steps keep. -/
def Obligations.ResetIsSafe : Prop :=
  QueuesBounded State.reset ∧ ReservationsRight State.reset.admission ∧ RoomKept State.reset ∧ InRange State.reset ∧
  TotesInRange State.reset ∧ EyeAgrees State.reset.eye ∧ HeadWatched State.reset.tracking ∧
  DriveAgrees State.reset.diverter ∧ PlanOrdered State.reset.plan ∧ LaneAgrees State.reset.lane ∧
  CounterAgrees State.reset ∧ LampTrue State.reset ∧ LaneRests State.reset

end
end

