-- ==== Sys2Proof/Laws/State.lean ====
section
/-! SUPPORT. The fields of State after each shared update, one lemma a field, true by unfolding: later proofs never open a record
update. -/

namespace Sys2Proof.Machine

/-! ### Events and answers -/

@[simp] theorem raise_belt (k : NoteKind) (n : NoteBody) (s : State) : (raise k n s).belt = s.belt := rfl
@[simp] theorem raise_eye (k : NoteKind) (n : NoteBody) (s : State) : (raise k n s).eye = s.eye := rfl
@[simp] theorem raise_tracking (k : NoteKind) (n : NoteBody) (s : State) : (raise k n s).tracking = s.tracking := rfl
@[simp] theorem raise_plan (k : NoteKind) (n : NoteBody) (s : State) : (raise k n s).plan = s.plan := rfl
@[simp] theorem raise_admission (k : NoteKind) (n : NoteBody) (s : State) : (raise k n s).admission = s.admission := rfl
@[simp] theorem raise_diverter (k : NoteKind) (n : NoteBody) (s : State) : (raise k n s).diverter = s.diverter := rfl
@[simp] theorem raise_lane (k : NoteKind) (n : NoteBody) (s : State) : (raise k n s).lane = s.lane := rfl
@[simp] theorem raise_counter (k : NoteKind) (n : NoteBody) (s : State) : (raise k n s).counter = s.counter := rfl
@[simp] theorem raise_pins (k : NoteKind) (n : NoteBody) (s : State) : (raise k n s).pins = s.pins := rfl
@[simp] theorem raise_resetLow (k : NoteKind) (n : NoteBody) (s : State) : (raise k n s).resetLow = s.resetLow := rfl
@[simp] theorem raise_pending (k : NoteKind) (n : NoteBody) (s : State) : (raise k n s).pending = s.pending := rfl

@[simp] theorem queueAnswer_belt (f : Frame) (s : State) : (queueAnswer f s).belt = s.belt := rfl
@[simp] theorem queueAnswer_eye (f : Frame) (s : State) : (queueAnswer f s).eye = s.eye := rfl
@[simp] theorem queueAnswer_tracking (f : Frame) (s : State) : (queueAnswer f s).tracking = s.tracking := rfl
@[simp] theorem queueAnswer_plan (f : Frame) (s : State) : (queueAnswer f s).plan = s.plan := rfl
@[simp] theorem queueAnswer_admission (f : Frame) (s : State) : (queueAnswer f s).admission = s.admission := rfl
@[simp] theorem queueAnswer_diverter (f : Frame) (s : State) : (queueAnswer f s).diverter = s.diverter := rfl
@[simp] theorem queueAnswer_lane (f : Frame) (s : State) : (queueAnswer f s).lane = s.lane := rfl
@[simp] theorem queueAnswer_counter (f : Frame) (s : State) : (queueAnswer f s).counter = s.counter := rfl
@[simp] theorem queueAnswer_pins (f : Frame) (s : State) : (queueAnswer f s).pins = s.pins := rfl
@[simp] theorem queueAnswer_resetLow (f : Frame) (s : State) : (queueAnswer f s).resetLow = s.resetLow := rfl
@[simp] theorem queueAnswer_pending (f : Frame) (s : State) : (queueAnswer f s).pending = s.pending := rfl

@[simp] theorem raise_report_enables (k : NoteKind) (n : NoteBody) (s : State) :
    (raise k n s).report.enables = s.report.enables := rfl
@[simp] theorem raise_report_globalEnable (k : NoteKind) (n : NoteBody) (s : State) :
    (raise k n s).report.globalEnable = s.report.globalEnable := rfl
@[simp] theorem raise_report_cause (k : NoteKind) (n : NoteBody) (s : State) :
    (raise k n s).report.cause = s.report.cause := rfl
@[simp] theorem queueAnswer_report_flags (f : Frame) (s : State) :
    (queueAnswer f s).report.flags = s.report.flags := rfl
@[simp] theorem queueAnswer_report_enables (f : Frame) (s : State) :
    (queueAnswer f s).report.enables = s.report.enables := rfl
@[simp] theorem queueAnswer_report_globalEnable (f : Frame) (s : State) :
    (queueAnswer f s).report.globalEnable = s.report.globalEnable := rfl
@[simp] theorem queueAnswer_report_cause (f : Frame) (s : State) :
    (queueAnswer f s).report.cause = s.report.cause := rfl

/-! ### Pins -/

@[simp] theorem homeReads_belt (home : Bool) (s : State) : (homeReads home s).belt = s.belt := rfl
@[simp] theorem homeReads_eye (home : Bool) (s : State) : (homeReads home s).eye = s.eye := rfl
@[simp] theorem homeReads_tracking (home : Bool) (s : State) : (homeReads home s).tracking = s.tracking := rfl
@[simp] theorem homeReads_plan (home : Bool) (s : State) : (homeReads home s).plan = s.plan := rfl
@[simp] theorem homeReads_admission (home : Bool) (s : State) : (homeReads home s).admission = s.admission := rfl
@[simp] theorem homeReads_diverter (home : Bool) (s : State) : (homeReads home s).diverter = s.diverter := rfl
@[simp] theorem homeReads_lane (home : Bool) (s : State) : (homeReads home s).lane = s.lane := rfl
@[simp] theorem homeReads_counter (home : Bool) (s : State) : (homeReads home s).counter = s.counter := rfl
@[simp] theorem homeReads_line (home : Bool) (s : State) : (homeReads home s).line = s.line := rfl
@[simp] theorem homeReads_report (home : Bool) (s : State) : (homeReads home s).report = s.report := rfl
@[simp] theorem homeReads_resetLow (home : Bool) (s : State) : (homeReads home s).resetLow = s.resetLow := rfl
@[simp] theorem homeReads_pending (home : Bool) (s : State) : (homeReads home s).pending = s.pending := rfl

@[simp] theorem zeyeTakes_belt (k : Nat) (level : Bool) (s : State) : (zeyeTakes k level s).belt = s.belt := rfl
@[simp] theorem zeyeTakes_eye (k : Nat) (level : Bool) (s : State) : (zeyeTakes k level s).eye = s.eye := rfl
@[simp] theorem zeyeTakes_tracking (k : Nat) (level : Bool) (s : State) : (zeyeTakes k level s).tracking = s.tracking := rfl
@[simp] theorem zeyeTakes_plan (k : Nat) (level : Bool) (s : State) : (zeyeTakes k level s).plan = s.plan := rfl
@[simp] theorem zeyeTakes_admission (k : Nat) (level : Bool) (s : State) : (zeyeTakes k level s).admission = s.admission := rfl
@[simp] theorem zeyeTakes_diverter (k : Nat) (level : Bool) (s : State) : (zeyeTakes k level s).diverter = s.diverter := rfl
@[simp] theorem zeyeTakes_lane (k : Nat) (level : Bool) (s : State) : (zeyeTakes k level s).lane = s.lane := rfl
@[simp] theorem zeyeTakes_counter (k : Nat) (level : Bool) (s : State) : (zeyeTakes k level s).counter = s.counter := rfl
@[simp] theorem zeyeTakes_line (k : Nat) (level : Bool) (s : State) : (zeyeTakes k level s).line = s.line := rfl
@[simp] theorem zeyeTakes_report (k : Nat) (level : Bool) (s : State) : (zeyeTakes k level s).report = s.report := rfl
@[simp] theorem zeyeTakes_resetLow (k : Nat) (level : Bool) (s : State) : (zeyeTakes k level s).resetLow = s.resetLow := rfl
@[simp] theorem zeyeTakes_pending (k : Nat) (level : Bool) (s : State) : (zeyeTakes k level s).pending = s.pending := rfl

@[simp] theorem homeReads_pins_eye (home : Bool) (s : State) : (homeReads home s).pins.eye = s.pins.eye := rfl
@[simp] theorem homeReads_pins_zeye (home : Bool) (s : State) : (homeReads home s).pins.zeye = s.pins.zeye := rfl
@[simp] theorem homeReads_pins_relBtn (home : Bool) (s : State) : (homeReads home s).pins.relBtn = s.pins.relBtn := rfl
@[simp] theorem homeReads_pins_los (home : Bool) (s : State) : (homeReads home s).pins.los = s.pins.los := rfl
@[simp] theorem homeReads_pins_home (home : Bool) (s : State) : (homeReads home s).pins.home = home := rfl

/-! ### The tick -/

@[simp] theorem tickTimers_eye  (s : State) : (tickTimers s).eye = s.eye := rfl
@[simp] theorem tickTimers_tracking  (s : State) : (tickTimers s).tracking = s.tracking := rfl
@[simp] theorem tickTimers_plan  (s : State) : (tickTimers s).plan = s.plan := rfl
@[simp] theorem tickTimers_admission  (s : State) : (tickTimers s).admission = s.admission := rfl
@[simp] theorem tickTimers_line  (s : State) : (tickTimers s).line = s.line := rfl
@[simp] theorem tickTimers_report  (s : State) : (tickTimers s).report = s.report := rfl
@[simp] theorem tickTimers_pins  (s : State) : (tickTimers s).pins = s.pins := rfl
@[simp] theorem tickTimers_resetLow  (s : State) : (tickTimers s).resetLow = s.resetLow := rfl
@[simp] theorem tickTimers_pending  (s : State) : (tickTimers s).pending = s.pending := rfl

@[simp] theorem tickTimers_belt_edgeSelect (s : State) : (tickTimers s).belt.edgeSelect = s.belt.edgeSelect := rfl
@[simp] theorem tickTimers_belt_gate (s : State) : (tickTimers s).belt.gate = s.belt.gate := rfl
@[simp] theorem tickTimers_belt_pos (s : State) : (tickTimers s).belt.pos = s.belt.pos := rfl
@[simp] theorem tickTimers_belt_speed (s : State) : (tickTimers s).belt.speed = s.belt.speed := rfl
@[simp] theorem tickTimers_belt_acc (s : State) : (tickTimers s).belt.acc = s.belt.acc := rfl
@[simp] theorem tickTimers_belt_state (s : State) : (tickTimers s).belt.state = s.belt.state := rfl
@[simp] theorem tickTimers_belt_encRef (s : State) : (tickTimers s).belt.encRef = s.belt.encRef := rfl
@[simp] theorem tickTimers_diverter_geometry (s : State) : (tickTimers s).diverter.geometry = s.diverter.geometry := rfl
@[simp] theorem tickTimers_diverter_state (s : State) : (tickTimers s).diverter.state = s.diverter.state := rfl
@[simp] theorem tickTimers_diverter_fire (s : State) : (tickTimers s).diverter.fire = s.diverter.fire := rfl
@[simp] theorem tickTimers_diverter_release (s : State) : (tickTimers s).diverter.release = s.diverter.release := rfl
@[simp] theorem tickTimers_diverter_clear (s : State) : (tickTimers s).diverter.clear = s.diverter.clear := rfl
@[simp] theorem tickTimers_diverter_flag (s : State) : (tickTimers s).diverter.flag = s.diverter.flag := rfl
@[simp] theorem tickTimers_lane_zoneCount (s : State) : (tickTimers s).lane.zoneCount = s.lane.zoneCount := rfl
@[simp] theorem tickTimers_lane_accepted (s : State) : (tickTimers s).lane.accepted = s.lane.accepted := rfl
@[simp] theorem tickTimers_lane_mode (s : State) : (tickTimers s).lane.mode = s.lane.mode := rfl
@[simp] theorem tickTimers_lane_transferLimit (s : State) : (tickTimers s).lane.transferLimit = s.lane.transferLimit := rfl
@[simp] theorem tickTimers_lane_dischargeLimit (s : State) : (tickTimers s).lane.dischargeLimit = s.lane.dischargeLimit := rfl
@[simp] theorem tickTimers_lane_entryDistance (s : State) : (tickTimers s).lane.entryDistance = s.lane.entryDistance := rfl
@[simp] theorem tickTimers_lane_polarity (s : State) : (tickTimers s).lane.polarity = s.lane.polarity := rfl
@[simp] theorem tickTimers_lane_state (s : State) : (tickTimers s).lane.state = s.lane.state := rfl
@[simp] theorem tickTimers_lane_inbound (s : State) : (tickTimers s).lane.inbound = s.lane.inbound := rfl
@[simp] theorem tickTimers_counter_release (s : State) : (tickTimers s).counter.release = s.counter.release := rfl
@[simp] theorem tickTimers_counter_mode (s : State) : (tickTimers s).counter.mode = s.counter.mode := rfl
@[simp] theorem tickTimers_counter_group (s : State) : (tickTimers s).counter.group = s.counter.group := rfl
@[simp] theorem tickTimers_counter_count (s : State) : (tickTimers s).counter.count = s.counter.count := rfl
@[simp] theorem tickTimers_counter_pressWaits (s : State) : (tickTimers s).counter.pressWaits = s.counter.pressWaits := rfl
@[simp] theorem tickTimers_counter_button (s : State) : (tickTimers s).counter.button = s.counter.button := rfl
@[simp] theorem tickTimers_counter_readyLit (s : State) : (tickTimers s).counter.readyLit = s.counter.readyLit := rfl

/-! ### The Diverter Drive -/

@[simp] theorem startThrow_geometry (d : Diverter) : (startThrow d).geometry = d.geometry := rfl
@[simp] theorem startThrow_state (d : Diverter) : (startThrow d).state = .throwing := rfl
@[simp] theorem startThrow_phase (d : Diverter) : (startThrow d).phase = some ⟨.throwing, 0, d.geometry.throwTime, 0⟩ := rfl
@[simp] theorem startThrow_fire (d : Diverter) : (startThrow d).fire = none := rfl
@[simp] theorem startThrow_release (d : Diverter) : (startThrow d).release = d.release := rfl
@[simp] theorem startThrow_clear (d : Diverter) : (startThrow d).clear = d.clear := rfl
@[simp] theorem startThrow_flag (d : Diverter) : (startThrow d).flag = d.flag := rfl
@[simp] theorem startThrow_duty (d : Diverter) : (startThrow d).duty = d.duty := rfl

@[simp] theorem startReturn_geometry (d : Diverter) : (startReturn d).geometry = d.geometry := rfl
@[simp] theorem startReturn_state (d : Diverter) : (startReturn d).state = .returning := rfl
@[simp] theorem startReturn_phase (d : Diverter) : (startReturn d).phase = some ⟨.returning, 0, d.geometry.returnTime, 0⟩ := rfl
@[simp] theorem startReturn_fire (d : Diverter) : (startReturn d).fire = d.fire := rfl
@[simp] theorem startReturn_release (d : Diverter) : (startReturn d).release = d.release := rfl
@[simp] theorem startReturn_clear (d : Diverter) : (startReturn d).clear = d.clear := rfl
@[simp] theorem startReturn_flag (d : Diverter) : (startReturn d).flag = d.flag := rfl
@[simp] theorem startReturn_duty (d : Diverter) : (startReturn d).duty = d.duty := rfl

@[simp] theorem homeCheck_geometry (d : Diverter) : (homeCheck d).geometry = d.geometry := rfl
@[simp] theorem homeCheck_state (d : Diverter) : (homeCheck d).state = .returning := rfl
@[simp] theorem homeCheck_phase (d : Diverter) : (homeCheck d).phase = some ⟨.returning, 0, d.geometry.returnTime, 0⟩ := rfl
@[simp] theorem homeCheck_fire (d : Diverter) : (homeCheck d).fire = none := rfl
@[simp] theorem homeCheck_release (d : Diverter) : (homeCheck d).release = none := rfl
@[simp] theorem homeCheck_clear (d : Diverter) : (homeCheck d).clear = none := rfl
@[simp] theorem homeCheck_flag (d : Diverter) : (homeCheck d).flag = false := rfl
@[simp] theorem homeCheck_duty (d : Diverter) : (homeCheck d).duty = d.duty := rfl

/-! ### The Eye Unit -/

@[simp] theorem leadTaken_polarity (p : Pos) (e : Eye) : (leadTaken p e).polarity = e.polarity := rfl
@[simp] theorem leadTaken_debounce (p : Pos) (e : Eye) : (leadTaken p e).debounce = e.debounce := rfl
@[simp] theorem leadTaken_maxLength (p : Pos) (e : Eye) : (leadTaken p e).maxLength = e.maxLength := rfl
@[simp] theorem leadTaken_nominal (p : Pos) (e : Eye) : (leadTaken p e).nominal = e.nominal := rfl
@[simp] theorem leadTaken_tolerance (p : Pos) (e : Eye) : (leadTaken p e).tolerance = e.tolerance := rfl
@[simp] theorem leadTaken_state (p : Pos) (e : Eye) : (leadTaken p e).state = .blocked := rfl
@[simp] theorem leadTaken_lead (p : Pos) (e : Eye) : (leadTaken p e).lead = some p := rfl
@[simp] theorem leadTaken_clearing (p : Pos) (e : Eye) : (leadTaken p e).clearing = e.clearing := rfl
@[simp] theorem leadTaken_debounceEnd (p : Pos) (e : Eye) : (leadTaken p e).debounceEnd = e.debounceEnd := rfl
@[simp] theorem leadTaken_blockedDeadline (p : Pos) (e : Eye) : (leadTaken p e).blockedDeadline = some ⟨plus p e.maxLength, e.maxLength⟩ := rfl
@[simp] theorem leadTaken_context (p : Pos) (e : Eye) : (leadTaken p e).context = e.context := rfl

@[simp] theorem clearingStarts_polarity (p : Pos) (e : Eye) : (clearingStarts p e).polarity = e.polarity := rfl
@[simp] theorem clearingStarts_debounce (p : Pos) (e : Eye) : (clearingStarts p e).debounce = e.debounce := rfl
@[simp] theorem clearingStarts_maxLength (p : Pos) (e : Eye) : (clearingStarts p e).maxLength = e.maxLength := rfl
@[simp] theorem clearingStarts_nominal (p : Pos) (e : Eye) : (clearingStarts p e).nominal = e.nominal := rfl
@[simp] theorem clearingStarts_tolerance (p : Pos) (e : Eye) : (clearingStarts p e).tolerance = e.tolerance := rfl
@[simp] theorem clearingStarts_state (p : Pos) (e : Eye) : (clearingStarts p e).state = .clearing := rfl
@[simp] theorem clearingStarts_lead (p : Pos) (e : Eye) : (clearingStarts p e).lead = e.lead := rfl
@[simp] theorem clearingStarts_clearing (p : Pos) (e : Eye) : (clearingStarts p e).clearing = some p := rfl
@[simp] theorem clearingStarts_debounceEnd (p : Pos) (e : Eye) : (clearingStarts p e).debounceEnd = some (plus p e.debounce) := rfl
@[simp] theorem clearingStarts_blockedDeadline (p : Pos) (e : Eye) : (clearingStarts p e).blockedDeadline = e.blockedDeadline := rfl
@[simp] theorem clearingStarts_context (p : Pos) (e : Eye) : (clearingStarts p e).context = e.context := rfl

@[simp] theorem gapMerged_polarity (e : Eye) : (gapMerged e).polarity = e.polarity := rfl
@[simp] theorem gapMerged_debounce (e : Eye) : (gapMerged e).debounce = e.debounce := rfl
@[simp] theorem gapMerged_maxLength (e : Eye) : (gapMerged e).maxLength = e.maxLength := rfl
@[simp] theorem gapMerged_nominal (e : Eye) : (gapMerged e).nominal = e.nominal := rfl
@[simp] theorem gapMerged_tolerance (e : Eye) : (gapMerged e).tolerance = e.tolerance := rfl
@[simp] theorem gapMerged_state (e : Eye) : (gapMerged e).state = .blocked := rfl
@[simp] theorem gapMerged_lead (e : Eye) : (gapMerged e).lead = e.lead := rfl
@[simp] theorem gapMerged_clearing (e : Eye) : (gapMerged e).clearing = none := rfl
@[simp] theorem gapMerged_debounceEnd (e : Eye) : (gapMerged e).debounceEnd = none := rfl
@[simp] theorem gapMerged_blockedDeadline (e : Eye) : (gapMerged e).blockedDeadline = e.blockedDeadline := rfl
@[simp] theorem gapMerged_context (e : Eye) : (gapMerged e).context = e.context := rfl

@[simp] theorem clearedEye_polarity (e : Eye) : (clearedEye e).polarity = e.polarity := rfl
@[simp] theorem clearedEye_debounce (e : Eye) : (clearedEye e).debounce = e.debounce := rfl
@[simp] theorem clearedEye_maxLength (e : Eye) : (clearedEye e).maxLength = e.maxLength := rfl
@[simp] theorem clearedEye_nominal (e : Eye) : (clearedEye e).nominal = e.nominal := rfl
@[simp] theorem clearedEye_tolerance (e : Eye) : (clearedEye e).tolerance = e.tolerance := rfl
@[simp] theorem clearedEye_state (e : Eye) : (clearedEye e).state = .clear := rfl
@[simp] theorem clearedEye_lead (e : Eye) : (clearedEye e).lead = none := rfl
@[simp] theorem clearedEye_clearing (e : Eye) : (clearedEye e).clearing = none := rfl
@[simp] theorem clearedEye_debounceEnd (e : Eye) : (clearedEye e).debounceEnd = none := rfl
@[simp] theorem clearedEye_blockedDeadline (e : Eye) : (clearedEye e).blockedDeadline = none := rfl
@[simp] theorem clearedEye_context (e : Eye) : (clearedEye e).context = .empty := rfl

/-! ### The Counter Interface -/

@[simp] theorem idleCounter_release (c : Counter) : (idleCounter c).release = .idle := rfl
@[simp] theorem idleCounter_mode (c : Counter) : (idleCounter c).mode = c.mode := rfl
@[simp] theorem idleCounter_group (c : Counter) : (idleCounter c).group = none := rfl
@[simp] theorem idleCounter_count (c : Counter) : (idleCounter c).count = 0 := rfl
@[simp] theorem idleCounter_pressWaits (c : Counter) : (idleCounter c).pressWaits = c.pressWaits := rfl
@[simp] theorem idleCounter_button (c : Counter) : (idleCounter c).button = c.button := rfl
@[simp] theorem idleCounter_buttonTimer (c : Counter) : (idleCounter c).buttonTimer = c.buttonTimer := rfl
@[simp] theorem idleCounter_waitTimer (c : Counter) : (idleCounter c).waitTimer = c.waitTimer := rfl
@[simp] theorem idleCounter_readyLit (c : Counter) : (idleCounter c).readyLit = c.readyLit := rfl

@[simp] theorem quietEnd_release (c : Counter) : (quietEnd c).release = .idle := rfl
@[simp] theorem quietEnd_mode (c : Counter) : (quietEnd c).mode = c.mode := rfl
@[simp] theorem quietEnd_group (c : Counter) : (quietEnd c).group = none := rfl
@[simp] theorem quietEnd_count (c : Counter) : (quietEnd c).count = 0 := rfl
@[simp] theorem quietEnd_pressWaits (c : Counter) : (quietEnd c).pressWaits = false := rfl
@[simp] theorem quietEnd_button (c : Counter) : (quietEnd c).button = c.button := rfl
@[simp] theorem quietEnd_buttonTimer (c : Counter) : (quietEnd c).buttonTimer = c.buttonTimer := rfl
@[simp] theorem quietEnd_waitTimer (c : Counter) : (quietEnd c).waitTimer = c.waitTimer := rfl
@[simp] theorem quietEnd_readyLit (c : Counter) : (quietEnd c).readyLit = c.readyLit := rfl

/-! ### The lane -/

@[simp] theorem putZone_zoneCount (k : Nat) (z : Zone) (l : Lane) : (putZone k z l).zoneCount = l.zoneCount := rfl
@[simp] theorem putZone_accepted (k : Nat) (z : Zone) (l : Lane) : (putZone k z l).accepted = l.accepted := rfl
@[simp] theorem putZone_mode (k : Nat) (z : Zone) (l : Lane) : (putZone k z l).mode = l.mode := rfl
@[simp] theorem putZone_transferLimit (k : Nat) (z : Zone) (l : Lane) : (putZone k z l).transferLimit = l.transferLimit := rfl
@[simp] theorem putZone_dischargeLimit (k : Nat) (z : Zone) (l : Lane) : (putZone k z l).dischargeLimit = l.dischargeLimit := rfl
@[simp] theorem putZone_entryDistance (k : Nat) (z : Zone) (l : Lane) : (putZone k z l).entryDistance = l.entryDistance := rfl
@[simp] theorem putZone_polarity (k : Nat) (z : Zone) (l : Lane) : (putZone k z l).polarity = l.polarity := rfl
@[simp] theorem putZone_state (k : Nat) (z : Zone) (l : Lane) : (putZone k z l).state = l.state := rfl
@[simp] theorem putZone_inbound (k : Nat) (z : Zone) (l : Lane) : (putZone k z l).inbound = l.inbound := rfl
@[simp] theorem putZone_discharge (k : Nat) (z : Zone) (l : Lane) : (putZone k z l).discharge = l.discharge := rfl
@[simp] theorem putZone_lateTimeout (k : Nat) (z : Zone) (l : Lane) : (putZone k z l).lateTimeout = l.lateTimeout := rfl
@[simp] theorem stopTimers_zoneCount (l : Lane) : (stopTimers l).zoneCount = l.zoneCount := rfl
@[simp] theorem stopTimers_accepted (l : Lane) : (stopTimers l).accepted = l.accepted := rfl
@[simp] theorem stopTimers_mode (l : Lane) : (stopTimers l).mode = l.mode := rfl
@[simp] theorem stopTimers_transferLimit (l : Lane) : (stopTimers l).transferLimit = l.transferLimit := rfl
@[simp] theorem stopTimers_dischargeLimit (l : Lane) : (stopTimers l).dischargeLimit = l.dischargeLimit := rfl
@[simp] theorem stopTimers_entryDistance (l : Lane) : (stopTimers l).entryDistance = l.entryDistance := rfl
@[simp] theorem stopTimers_polarity (l : Lane) : (stopTimers l).polarity = l.polarity := rfl
@[simp] theorem stopTimers_state (l : Lane) : (stopTimers l).state = l.state := rfl
@[simp] theorem stopTimers_inbound (l : Lane) : (stopTimers l).inbound = l.inbound := rfl
@[simp] theorem stopTimers_discharge (l : Lane) : (stopTimers l).discharge = none := rfl
@[simp] theorem stopTimers_lateTimeout (l : Lane) : (stopTimers l).lateTimeout = false := rfl
@[simp] theorem rescanZones_zoneCount (s : State) : (rescanZones s).zoneCount = s.lane.zoneCount := rfl
@[simp] theorem rescanZones_accepted (s : State) : (rescanZones s).accepted = s.lane.accepted := rfl
@[simp] theorem rescanZones_mode (s : State) : (rescanZones s).mode = s.lane.mode := rfl
@[simp] theorem rescanZones_transferLimit (s : State) : (rescanZones s).transferLimit = s.lane.transferLimit := rfl
@[simp] theorem rescanZones_dischargeLimit (s : State) : (rescanZones s).dischargeLimit = s.lane.dischargeLimit := rfl
@[simp] theorem rescanZones_entryDistance (s : State) : (rescanZones s).entryDistance = s.lane.entryDistance := rfl
@[simp] theorem rescanZones_polarity (s : State) : (rescanZones s).polarity = s.lane.polarity := rfl
@[simp] theorem rescanZones_state (s : State) : (rescanZones s).state = s.lane.state := rfl
@[simp] theorem rescanZones_discharge (s : State) : (rescanZones s).discharge = none := rfl
@[simp] theorem rescanZones_lateTimeout (s : State) : (rescanZones s).lateTimeout = false := rfl
@[simp] theorem dischargedLane_zoneCount (l : Lane) : (dischargedLane l).zoneCount = l.zoneCount := rfl
@[simp] theorem dischargedLane_accepted (l : Lane) : (dischargedLane l).accepted = l.accepted := rfl
@[simp] theorem dischargedLane_mode (l : Lane) : (dischargedLane l).mode = l.mode := rfl
@[simp] theorem dischargedLane_transferLimit (l : Lane) : (dischargedLane l).transferLimit = l.transferLimit := rfl
@[simp] theorem dischargedLane_dischargeLimit (l : Lane) : (dischargedLane l).dischargeLimit = l.dischargeLimit := rfl
@[simp] theorem dischargedLane_entryDistance (l : Lane) : (dischargedLane l).entryDistance = l.entryDistance := rfl
@[simp] theorem dischargedLane_polarity (l : Lane) : (dischargedLane l).polarity = l.polarity := rfl
@[simp] theorem dischargedLane_state (l : Lane) : (dischargedLane l).state = l.state := rfl
@[simp] theorem dischargedLane_inbound (l : Lane) : (dischargedLane l).inbound = l.inbound := rfl
@[simp] theorem dischargedLane_discharge (l : Lane) : (dischargedLane l).discharge = none := rfl
@[simp] theorem dischargedLane_lateTimeout (l : Lane) :
    (dischargedLane l).lateTimeout = (l.lateTimeout || timerOut l.discharge) := rfl
@[simp] theorem rescanZones_inbound (s : State) : (rescanZones s).inbound = s.lane.inbound := rfl

end Sys2Proof.Machine
end

