-- ==== Sys2Proof/Laws/Queues.lean ====
section
/-! SUPPORT. The arbiter and the three queues: what a join or a choice keeps, and the bounds it stays in (R151 to R155). -/

namespace Sys2Proof.Machine

theorem localFull_iff (l : LinePort) : localFull l = true ↔ 8 ≤ l.localQueue.length := decide_eq_true_iff

theorem forwardFull_iff (l : LinePort) : forwardFull l = true ↔ 4 ≤ l.forward.length := decide_eq_true_iff

theorem handOffFull_iff (l : LinePort) : handOffFull l = true ↔ 4 ≤ l.handOff.length := decide_eq_true_iff

/-- What the arbiter and the joins leave alone: ring position, link state, error count and receiver. -/
structure SamePort (l m : LinePort) : Prop where
  link : m.link = l.link
  position : m.position = l.position
  errors : m.errors = l.errors
  receiverReady : m.receiverReady = l.receiverReady

theorem SamePort.refl (l : LinePort) : SamePort l l := ⟨rfl, rfl, rfl, rfl⟩

theorem SamePort.trans {l m n : LinePort} (h : SamePort l m) (g : SamePort m n) : SamePort l n :=
  ⟨g.link.trans h.link, g.position.trans h.position, g.errors.trans h.errors, g.receiverReady.trans h.receiverReady⟩

theorem pick_samePort (l : LinePort) : SamePort l (pick l) := by
  unfold pick
  repeat' split
  all_goals exact ⟨rfl, rfl, rfl, rfl⟩

theorem arbitrate_samePort (l : LinePort) : SamePort l (arbitrate l) := by
  unfold arbitrate
  split
  · exact pick_samePort l
  · exact .refl l

theorem localJoin_samePort (f : Frame) (l : LinePort) : SamePort l (localJoin f l) := by
  unfold localJoin
  split
  · exact .refl l
  · exact ⟨(arbitrate_samePort _).link, (arbitrate_samePort _).position, (arbitrate_samePort _).errors,
      (arbitrate_samePort _).receiverReady⟩

theorem forwardJoin_samePort (f : Frame) (l : LinePort) : SamePort l (forwardJoin f l) :=
  ⟨(arbitrate_samePort _).link, (arbitrate_samePort _).position, (arbitrate_samePort _).errors,
    (arbitrate_samePort _).receiverReady⟩

theorem handOffJoin_samePort (f : Frame) (l : LinePort) : SamePort l (handOffJoin f l) :=
  ⟨(arbitrate_samePort _).link, (arbitrate_samePort _).position, (arbitrate_samePort _).errors,
    (arbitrate_samePort _).receiverReady⟩

/-- The bounds of the Line Port: 4, 4 and 8 frames, and a credit count of at most 3. -/
abbrev PortBounded (l : LinePort) : Prop :=
  l.forward.length ≤ 4 ∧ l.handOff.length ≤ 4 ∧ l.localQueue.length ≤ 8 ∧ l.credit ≤ 3

theorem pick_bounded {l : LinePort} (h : PortBounded l) : PortBounded (pick l) := by
  obtain ⟨hf, hh, hl, hc⟩ := h
  unfold pick
  repeat' split
  all_goals simp_all [PortBounded, Config.creditLimit]
  all_goals omega

theorem arbitrate_bounded {l : LinePort} (h : PortBounded l) : PortBounded (arbitrate l) := by
  unfold arbitrate
  split
  · exact pick_bounded h
  · exact h

theorem localJoin_bounded (f : Frame) {l : LinePort} (h : PortBounded l) : PortBounded (localJoin f l) := by
  unfold localJoin
  split
  · exact h
  · rename_i hn
    refine arbitrate_bounded ⟨h.1, h.2.1, ?_, h.2.2.2⟩
    rw [localFull_iff] at hn
    simp only [List.length_append, List.length_singleton]
    omega

theorem forwardJoin_bounded (f : Frame) {l : LinePort} (h : PortBounded l) (room : forwardFull l = false) :
    PortBounded (forwardJoin f l) := by
  refine arbitrate_bounded ⟨?_, h.2.1, h.2.2.1, h.2.2.2⟩
  have free : ¬ 4 ≤ l.forward.length := fun full => by simp [(forwardFull_iff l).2 full] at room
  simp only [List.length_append, List.length_singleton]
  omega

theorem handOffJoin_bounded (f : Frame) {l : LinePort} (h : PortBounded l) (room : handOffFull l = false) :
    PortBounded (handOffJoin f l) := by
  refine arbitrate_bounded ⟨h.1, ?_, h.2.2.1, h.2.2.2⟩
  have free : ¬ 4 ≤ l.handOff.length := fun full => by simp [(handOffFull_iff l).2 full] at room
  simp only [List.length_append, List.length_singleton]
  omega

/-- Raising an event keeps the port's bounds. -/
theorem raise_bounded (k : NoteKind) (n : NoteBody) {s : State} (h : PortBounded s.line) :
    PortBounded (raise k n s).line := by
  unfold raise
  split
  · exact localJoin_bounded _ h
  · exact h

/-- Raising events keeps the port's bounds. -/
theorem raiseAll_bounded (k : NoteKind) (ns : List NoteBody) {s : State} (h : PortBounded s.line) :
    PortBounded (raiseAll k ns s).line := by
  induction ns generalizing s with
  | nil => exact h
  | cons n ns ih => exact ih (raise_bounded k n h)

theorem raise_samePort (k : NoteKind) (n : NoteBody) (s : State) : SamePort s.line (raise k n s).line := by
  unfold raise
  split
  · exact localJoin_samePort _ _
  · exact .refl _

end Sys2Proof.Machine
end

