-- ==== Sys2Proof/Laws/LaneSide.lean ====
section
/-! SUPPORT. What the lane's side of the node (zones, releases, reservations, events) leaves alone: the blocks of the belt's side,
the plan, the settings, the pins and the queue. One lemma an operation. -/

namespace Sys2Proof.Machine

/-- `t` differs from `s` at most in the zones, inbound list, timers and state of the lane, the release state, the reservation
table, the flags and the transmit queues. -/
structure LaneSide (s t : State) : Prop where
  belt : t.belt = s.belt
  eye : t.eye = s.eye
  tracking : t.tracking = s.tracking
  plan : t.plan = s.plan
  diverter : t.diverter = s.diverter
  pins : t.pins = s.pins
  resetLow : t.resetLow = s.resetLow
  pending : t.pending = s.pending
  port : SamePort s.line t.line
  refusalLimit : t.admission.refusalLimit = s.admission.refusalLimit
  span : t.admission.span = s.admission.span
  enables : t.report.enables = s.report.enables
  globalEnable : t.report.globalEnable = s.report.globalEnable
  cause : t.report.cause = s.report.cause
  zoneCount : t.lane.zoneCount = s.lane.zoneCount
  accepted : t.lane.accepted = s.lane.accepted
  mode : t.lane.mode = s.lane.mode
  transferLimit : t.lane.transferLimit = s.lane.transferLimit
  dischargeLimit : t.lane.dischargeLimit = s.lane.dischargeLimit
  entryDistance : t.lane.entryDistance = s.lane.entryDistance
  polarity : t.lane.polarity = s.lane.polarity

theorem LaneSide.refl (s : State) : LaneSide s s := by constructor <;> first | rfl | exact .refl _

theorem LaneSide.trans {s t u : State} (h : LaneSide s t) (g : LaneSide t u) : LaneSide s u where
  belt := g.belt.trans h.belt
  eye := g.eye.trans h.eye
  tracking := g.tracking.trans h.tracking
  plan := g.plan.trans h.plan
  diverter := g.diverter.trans h.diverter
  pins := g.pins.trans h.pins
  resetLow := g.resetLow.trans h.resetLow
  pending := g.pending.trans h.pending
  port := h.port.trans g.port
  refusalLimit := g.refusalLimit.trans h.refusalLimit
  span := g.span.trans h.span
  enables := g.enables.trans h.enables
  globalEnable := g.globalEnable.trans h.globalEnable
  cause := g.cause.trans h.cause
  zoneCount := g.zoneCount.trans h.zoneCount
  accepted := g.accepted.trans h.accepted
  mode := g.mode.trans h.mode
  transferLimit := g.transferLimit.trans h.transferLimit
  dischargeLimit := g.dischargeLimit.trans h.dischargeLimit
  entryDistance := g.entryDistance.trans h.entryDistance
  polarity := g.polarity.trans h.polarity

/-! ### Events -/

theorem raise_laneSide (k : NoteKind) (n : NoteBody) (s : State) : LaneSide s (raise k n s) := by
  constructor <;> first | rfl | exact raise_samePort k n s

theorem raiseAll_laneSide (k : NoteKind) (ns : List NoteBody) (s : State) : LaneSide s (raiseAll k ns s) := by
  induction ns generalizing s with
  | nil => exact .refl s
  | cons n ns ih => exact (raise_laneSide k n s).trans (ih (raise k n s))

theorem offerHandOff_laneSide (f : Frame) (tag order : Ident) (lead : Pos) (s : State) :
    LaneSide s (offerHandOff f tag order lead s) := by
  unfold offerHandOff
  split
  · exact raise_laneSide _ _ s
  · constructor <;> first | rfl | exact handOffJoin_samePort f s.line

theorem forwardFrame_laneSide (f : Frame) (s : State) : LaneSide s (forwardFrame f s) := by
  unfold forwardFrame
  split
  · exact raise_laneSide _ _ s
  · constructor <;> first | rfl | exact forwardJoin_samePort f s.line

theorem queueAnswer_laneSide (f : Frame) (s : State) : LaneSide s (queueAnswer f s) := by
  constructor <;> first | rfl | exact localJoin_samePort f s.line

/-! ### The lamp and the trim -/

theorem evalReady_laneSide (s : State) : LaneSide s (evalReady s) := by
  have lit : LaneSide s { s with counter := { s.counter with readyLit := readyHolds s.lane } } := by
    constructor <;> first | rfl | exact .refl _
  unfold evalReady
  dsimp only
  split
  · split
    · exact lit.trans (raise_laneSide _ _ _)
    · exact lit
  · exact lit

theorem trim_laneSide (s : State) : LaneSide s (trim s) := by
  unfold trim
  exact LaneSide.trans (by constructor <;> first | rfl | exact .refl _) (raiseAll_laneSide _ _ _)

/-- The trim changes no zone, no inbound record and no release. -/
theorem trim_lane (s : State) : (trim s).lane = s.lane ∧ (trim s).counter = s.counter := by
  have keep : ∀ (ns : List NoteBody) (t : State),
      (raiseAll .reservationLapsed ns t).lane = t.lane ∧ (raiseAll .reservationLapsed ns t).counter = t.counter := by
    intro ns
    induction ns with
    | nil => exact fun t => ⟨rfl, rfl⟩
    | cons n ns ih => exact fun t => ih (raise .reservationLapsed n t)
  exact keep _ _

/-- The lamp changes no zone, no inbound record and no reservation; the lamp alone changes in the Counter Interface. -/
theorem evalReady_keeps (s : State) :
    (evalReady s).lane = s.lane ∧ (evalReady s).admission = s.admission ∧
    (evalReady s).counter = { s.counter with readyLit := readyHolds s.lane } := by
  unfold evalReady
  dsimp only
  split
  · split <;> exact ⟨rfl, rfl, rfl⟩
  · exact ⟨rfl, rfl, rfl⟩

/-! ### Releases -/

theorem refuseRequest_laneSide (r : RefuseReason) (n : Nat) (s : State) : LaneSide s (refuseRequest r n s) := by
  unfold refuseRequest
  exact LaneSide.trans (by constructor <;> first | rfl | exact .refl _) (raise_laneSide _ _ _)

theorem endAfterDischarge_laneSide (s : State) : LaneSide s (endAfterDischarge s) := by
  have ended : LaneSide s { s with counter := quietEnd s.counter } := by
    constructor <;> first | rfl | exact .refl _
  unfold endAfterDischarge
  dsimp only
  split
  · split
    · exact ended.trans (refuseRequest_laneSide _ _ _)
    · exact ended
  · exact ended

theorem completionTaken_laneSide (r : LaneRecord) (s : State) : LaneSide s (completionTaken r s) := by
  unfold completionTaken
  dsimp only
  split
  · exact LaneSide.trans (by constructor <;> first | rfl | exact .refl _) (raise_laneSide _ _ _)
  · exact (LaneSide.trans (by constructor <;> first | rfl | exact .refl _) (raise_laneSide _ _ _)).trans
      (endAfterDischarge_laneSide _)

theorem completeDischarge_laneSide (s : State) : LaneSide s (completeDischarge s) := by
  have emptied : LaneSide s (evalReady { s with lane := dischargedLane s.lane }) :=
    LaneSide.trans (by constructor <;> first | rfl | exact .refl _) (evalReady_laneSide _)
  unfold completeDischarge
  dsimp only
  split
  · exact emptied.trans (completionTaken_laneSide _ _)
  · exact emptied

theorem startDischarge_laneSide (s : State) : LaneSide s (startDischarge s) := by
  have passing : LaneSide s (evalReady { s with lane :=
      { putZone s.lane.zoneCount { zone s.lane s.lane.zoneCount with state := .passing } s.lane with
        discharge := some ⟨0, s.lane.dischargeLimit * 10⟩ } }) :=
    LaneSide.trans (by constructor <;> first | rfl | exact .refl _) (evalReady_laneSide _)
  unfold startDischarge
  dsimp only
  split
  · exact passing
  · exact passing.trans (completeDischarge_laneSide _)

theorem idleRequest_laneSide (n : Nat) (s : State) : LaneSide s (idleRequest n s) := by
  unfold idleRequest
  split
  · exact refuseRequest_laneSide _ _ _
  · exact LaneSide.trans (by constructor <;> first | rfl | exact .refl _) (startDischarge_laneSide _)

theorem releaseRequest_laneSide (n : Nat) (s : State) : LaneSide s (releaseRequest n s) := by
  unfold releaseRequest
  split
  · exact idleRequest_laneSide _ _
  · constructor <;> first | rfl | exact .refl _
  · constructor <;> first | rfl | exact .refl _

theorem endInWaiting_laneSide (s : State) : LaneSide s (endInWaiting s) := by
  have ended : LaneSide s { s with counter := quietEnd s.counter } := by
    constructor <;> first | rfl | exact .refl _
  unfold endInWaiting
  dsimp only
  split
  · exact ended.trans (idleRequest_laneSide _ _)
  · exact ended

theorem zoneZHeld_laneSide (s : State) : LaneSide s (zoneZHeld s) := by
  unfold zoneZHeld
  split
  · split
    · split
      · exact LaneSide.trans (by constructor <;> first | rfl | exact .refl _) (startDischarge_laneSide _)
      · exact endInWaiting_laneSide s
    · exact endInWaiting_laneSide s
  · exact .refl s

/-! ### Zones -/

theorem jam_laneSide (detail : Nat) (r : Option LaneRecord) (k : Nat) (s : State) : LaneSide s (jam detail r k s) := by
  unfold jam
  dsimp only
  split <;>
    exact (LaneSide.trans (by constructor <;> first | rfl | exact .refl _) (evalReady_laneSide _)).trans
      (raise_laneSide _ _ _)

theorem enterZone1_laneSide (s : State) : LaneSide s (enterZone1 s) := by
  unfold enterZone1
  split
  · exact (LaneSide.trans (by constructor <;> first | rfl | exact .refl _) (raise_laneSide _ _ _)).trans
      (evalReady_laneSide _)
  · exact ((LaneSide.trans (by constructor <;> first | rfl | exact .refl _) (raise_laneSide _ _ _)).trans
      (trim_laneSide _)).trans (evalReady_laneSide _)

theorem arrive_laneSide (k : Nat) (s : State) : LaneSide s (arrive k s) := by
  unfold arrive
  split
  · exact .refl s
  · rename_i r _
    have moved : LaneSide s (evalReady { s with
        lane := (putZone k ⟨.held, some r, false, none⟩
          (putZone (k - 1) (transferPart { zone s.lane (k - 1) with record := none }) s.lane)) }) :=
      LaneSide.trans (by constructor <;> first | rfl | exact .refl _) (evalReady_laneSide _)
    dsimp only
    split
    · exact moved.trans (zoneZHeld_laneSide _)
    · exact moved

theorem startTransfer_laneSide (k : Nat) (s : State) : LaneSide s (startTransfer k s) := by
  unfold startTransfer
  dsimp only
  split
  · exact (LaneSide.trans (by constructor <;> first | rfl | exact .refl _) (evalReady_laneSide _)).trans
      (arrive_laneSide _ _)
  · exact LaneSide.trans (by constructor <;> first | rfl | exact .refl _) (evalReady_laneSide _)

theorem zone1Fills_laneSide (s : State) : LaneSide s (zone1Fills s) := by
  unfold zone1Fills
  dsimp only
  split
  · exact (LaneSide.trans (by constructor <;> first | rfl | exact .refl _) (evalReady_laneSide _)).trans
      (enterZone1_laneSide _)
  · exact LaneSide.trans (by constructor <;> first | rfl | exact .refl _) (evalReady_laneSide _)

theorem laneRule_laneSide {s t : State} (h : laneRule s = some t) : LaneSide s t := by
  unfold laneRule at h
  split at h
  · cases h; exact zone1Fills_laneSide s
  · cases h
    exact LaneSide.trans (by constructor <;> first | rfl | exact .refl _) (evalReady_laneSide _)
  · obtain ⟨k, -, rfl⟩ := Option.map_eq_some_iff.1 h
    exact startTransfer_laneSide k s

/-- A relation that every rule of the lane keeps holds from a state to the lane's settling of it. -/
theorem laneRules_ind {R : State → State → Prop} (refl : ∀ s, R s s) (trans : ∀ {s t u}, R s t → R t u → R s u)
    (rule : ∀ {s t}, laneRule s = some t → R s t) (n : Nat) (s : State) : R s (laneRules n s) := by
  induction n generalizing s with
  | zero => exact refl s
  | succ n ih =>
    unfold laneRules
    split
    · rename_i t h
      exact trans (rule h) (ih t)
    · exact refl s

/-- An invariant that every rule of the lane keeps is kept by the settling. -/
theorem settleLane_keeps {P : State → Prop} (rule : ∀ {s t}, P s → laneRule s = some t → P t) {s : State} (h : P s) :
    P (settleLane s) :=
  laneRules_ind (R := fun s t => P s → P t) (fun _ h => h) (fun f g h => g (f h)) (fun r h => rule h r) 128 s h

/-- A lane that no rule applies to stays as it is. -/
theorem settleLane_of_settled {s : State} (h : laneRule s = none) : settleLane s = s := by
  simp [settleLane, laneRules, h]

theorem settleLane_laneSide (s : State) : LaneSide s (settleLane s) :=
  laneRules_ind LaneSide.refl LaneSide.trans laneRule_laneSide 128 s

/-! ### Zone eyes, the rescan and the timers' ends -/

theorem zone1Blocked_laneSide (s : State) : LaneSide s (zone1Blocked s) := by
  unfold zone1Blocked
  split <;> first | exact enterZone1_laneSide s | exact jam_laneSide _ _ _ s

theorem zoneKBlocked_laneSide (k : Nat) (s : State) : LaneSide s (zoneKBlocked k s) := by
  unfold zoneKBlocked
  split
  · exact jam_laneSide _ _ _ s
  · exact arrive_laneSide k s
  · exact .refl s
  · split
    · constructor <;> first | rfl | exact .refl _
    · exact .refl s

theorem zoneCleared_laneSide (k : Nat) (s : State) : LaneSide s (zoneCleared k s) := by
  unfold zoneCleared
  split
  · exact .refl s
  · exact .refl s
  · exact .refl s
  · split
    · exact LaneSide.trans (by constructor <;> first | rfl | exact .refl _) (evalReady_laneSide _)
    · exact completeDischarge_laneSide s

theorem dischargeJams_laneSide (s : State) : LaneSide s (dischargeJams s) :=
  (jam_laneSide _ _ _ s).trans (settleLane_laneSide _)

theorem zoneChanged_laneSide (k : Nat) (blocked : Bool) (s : State) : LaneSide s (zoneChanged k blocked s) := by
  unfold zoneChanged
  split
  · exact .refl s
  · refine LaneSide.trans ?_ (settleLane_laneSide _)
    split
    · split
      · exact zone1Blocked_laneSide s
      · exact zoneKBlocked_laneSide k s
    · exact zoneCleared_laneSide k s

/-- A discharge timeout that may come jams the lane; any other changes nothing (R126, R141). -/
theorem dischargeRunsOut_cases (s : State) :
    (dischargeRunsOut s = dischargeJams s ∧ s.resetLow = false ∧ s.lane.state ≠ .jammed ∧ timeoutMayCome s.lane = true) ∨
    (dischargeRunsOut s = s ∧ (s.resetLow = true ∨ s.lane.state = .jammed ∨ timeoutMayCome s.lane = false)) := by
  by_cases stays : s.resetLow || s.lane.state == .jammed || !timeoutMayCome s.lane
  · exact .inr ⟨by simp [dischargeRunsOut, stays], by simpa [or_assoc] using stays⟩
  · exact .inl ⟨by simp [dischargeRunsOut, stays], by simpa [and_assoc] using stays⟩

theorem dropExcess_laneSide (s : State) : LaneSide s (dropExcess s) := by
  unfold dropExcess
  split
  · exact LaneSide.trans (by constructor <;> first | rfl | exact .refl _) (raiseAll_laneSide _ _ _)
  · exact .refl s

theorem rescan_laneSide (s : State) : LaneSide s (rescan s) := by
  unfold rescan
  exact (LaneSide.trans (by constructor <;> first | rfl | exact .refl _) (trim_laneSide _)).trans (dropExcess_laneSide _)

theorem rescanToRunning_laneSide (s : State) : LaneSide s (rescanToRunning s) := by
  unfold rescanToRunning
  dsimp only
  exact ((rescan_laneSide s).trans (LaneSide.trans (by constructor <;> first | rfl | exact .refl _)
    (evalReady_laneSide _))).trans (settleLane_laneSide _)

theorem rescanInPlace_laneSide (s : State) : LaneSide s (rescanInPlace s) := by
  unfold rescanInPlace
  dsimp only
  refine LaneSide.trans ?_ (settleLane_laneSide _)
  split
  · exact ((rescan_laneSide s).trans (evalReady_laneSide _)).trans (zoneZHeld_laneSide _)
  · exact (rescan_laneSide s).trans (evalReady_laneSide _)

theorem transferRunsOut_laneSide (k : Nat) (s : State) : LaneSide s (transferRunsOut k s) := by
  unfold transferRunsOut
  split
  · exact .refl s
  · exact (jam_laneSide _ _ _ s).trans (settleLane_laneSide _)

theorem dischargeRunsOut_laneSide (s : State) : LaneSide s (dischargeRunsOut s) := by
  unfold dischargeRunsOut
  split
  · exact .refl s
  · exact dischargeJams_laneSide s

theorem pressTaken_laneSide (s : State) : LaneSide s (pressTaken s) := by
  unfold pressTaken
  split
  · exact .refl s
  · exact (LaneSide.trans (by constructor <;> first | rfl | exact .refl _) (releaseRequest_laneSide _ _)).trans
      (settleLane_laneSide _)

end Sys2Proof.Machine
end

