-- ==== Sys2Proof/Laws/Settle.lean ====
section
/-! SUPPORT. When the settling of reached deadlines does nothing, what it leaves alone, and how a frame or an ask reaches its block:
the lemmas with which every command's meaning is opened once. -/

namespace Sys2Proof.Machine

/-! ### Deadlines that are not reached -/

theorem takeTrailing_of_not_due {s : State} (h : trailingDue s = false) : takeTrailing s = s := by
  simp [takeTrailing, h]

theorem takeBlocked_of_not_due {s : State} (h : blockedDue s = false) : takeBlocked s = s := by
  simp [takeBlocked, h]

theorem takeHead_of_not_due {s : State} (h : headDue s = false) : takeHead s = s := by
  simp [takeHead, h]

theorem takeReservations_of_not_due {s : State} (h : reservationDue s = false) : takeReservations s = s := by
  simp [takeReservations, h]

theorem takeFire_of_not_due {s : State} (h : fireDue s = false) : takeFire s = s := by
  simp [takeFire, h]

theorem takeRelease_of_not_due {s : State} (h : releaseDue s = false) : takeRelease s = s := by
  simp [takeRelease, h]

theorem takeEntries_of_not_due {s : State} (h : entryDue s = false) : takeEntries s = s := by
  simp [takeEntries, h]

/-- With no deadline outstanding the node is settled. -/
theorem settle_of_not_due {s : State} (h : anyDue s = false) : settle s = s := by
  simp only [anyDue, Bool.or_eq_false_iff] at h
  obtain ⟨⟨⟨⟨⟨⟨h1, h2⟩, h3⟩, h4⟩, h5⟩, h6⟩, h7⟩ := h
  simp [settle, takeTrailing_of_not_due h1, takeBlocked_of_not_due h2, takeHead_of_not_due h3,
    takeReservations_of_not_due h4, takeFire_of_not_due h5, takeRelease_of_not_due h6, takeEntries_of_not_due h7]

/-- While RESET_N is low no deadline is outstanding (R4). -/
theorem anyDue_of_resetLow {s : State} (h : s.resetLow = true) : anyDue s = false := by
  simp [anyDue, trailingDue, blockedDue, headDue, reservationDue, fireDue, releaseDue, entryDue, reaches, h]

theorem settle_of_resetLow {s : State} (h : s.resetLow = true) : settle s = s :=
  settle_of_not_due (anyDue_of_resetLow h)

theorem settle_of_calm {s : State} (h : Calm s) : settle s = s := settle_of_not_due h.2

/-! ### What the settling leaves alone -/

/-- `t` differs from `s` in the belt's side too, but not in P, the settings, the plan, the pins, the port's own state or the
queue. -/
structure DeadlineSide (s t : State) : Prop where
  belt : t.belt = s.belt
  plan : t.plan = s.plan
  pins : t.pins = s.pins
  resetLow : t.resetLow = s.resetLow
  pending : t.pending = s.pending
  port : SamePort s.line t.line
  geometry : t.diverter.geometry = s.diverter.geometry
  refusalLimit : t.admission.refusalLimit = s.admission.refusalLimit
  span : t.admission.span = s.admission.span
  enables : t.report.enables = s.report.enables
  globalEnable : t.report.globalEnable = s.report.globalEnable
  cause : t.report.cause = s.report.cause
  zoneCount : t.lane.zoneCount = s.lane.zoneCount
  mode : t.lane.mode = s.lane.mode

theorem LaneSide.deadlineSide {s t : State} (h : LaneSide s t) : DeadlineSide s t where
  belt := h.belt
  plan := h.plan
  pins := h.pins
  resetLow := h.resetLow
  pending := h.pending
  port := h.port
  geometry := by rw [h.diverter]
  refusalLimit := h.refusalLimit
  span := h.span
  enables := h.enables
  globalEnable := h.globalEnable
  cause := h.cause
  zoneCount := h.zoneCount
  mode := h.mode

theorem DeadlineSide.refl (s : State) : DeadlineSide s s := (LaneSide.refl s).deadlineSide

theorem DeadlineSide.trans {s t u : State} (h : DeadlineSide s t) (g : DeadlineSide t u) : DeadlineSide s u where
  belt := g.belt.trans h.belt
  plan := g.plan.trans h.plan
  pins := g.pins.trans h.pins
  resetLow := g.resetLow.trans h.resetLow
  pending := g.pending.trans h.pending
  port := h.port.trans g.port
  geometry := g.geometry.trans h.geometry
  refusalLimit := g.refusalLimit.trans h.refusalLimit
  span := g.span.trans h.span
  enables := g.enables.trans h.enables
  globalEnable := g.globalEnable.trans h.globalEnable
  cause := g.cause.trans h.cause
  zoneCount := g.zoneCount.trans h.zoneCount
  mode := g.mode.trans h.mode

theorem deadlineSide_eye (s : State) (e : Eye) : DeadlineSide s { s with eye := e } := by
  constructor <;> first | rfl | exact .refl _

theorem deadlineSide_tracking (s : State) (k : Tracking) : DeadlineSide s { s with tracking := k } := by
  constructor <;> first | rfl | exact .refl _

/-- A diverter with the same descriptor. -/
theorem deadlineSide_diverter {s : State} {d : Diverter} (h : d.geometry = s.diverter.geometry) :
    DeadlineSide s { s with diverter := d } := by
  constructor <;> first | rfl | exact .refl _ | exact h

theorem trailingTaken_deadlineSide (trail : Pos) (s : State) : DeadlineSide s (trailingTaken trail s) := by
  unfold trailingTaken
  dsimp only
  split
  · exact deadlineSide_diverter rfl
  · exact deadlineSide_diverter rfl
  all_goals split <;> exact deadlineSide_diverter rfl

theorem lengthCheck_deadlineSide (trail : Pos) (s : State) : DeadlineSide s (lengthCheck trail s) := by
  unfold lengthCheck
  split
  · dsimp only
    split
    · exact (raise_laneSide _ _ s).deadlineSide
    · exact .refl s
  all_goals exact .refl s

theorem deliverTrail_deadlineSide (trail : Pos) (s : State) : DeadlineSide s (deliverTrail trail s) := by
  unfold deliverTrail
  split
  · exact trailingTaken_deadlineSide trail s
  · exact .refl s

theorem confirmTrail_deadlineSide (s : State) : DeadlineSide s (confirmTrail s) := by
  unfold confirmTrail
  exact ((lengthCheck_deadlineSide _ s).trans (deliverTrail_deadlineSide _ _)).trans
    (deadlineSide_eye _ _)

theorem takeTrailing_deadlineSide (s : State) : DeadlineSide s (takeTrailing s) := by
  unfold takeTrailing
  split
  · exact confirmTrail_deadlineSide s
  · exact .refl s

theorem takeBlocked_deadlineSide (s : State) : DeadlineSide s (takeBlocked s) := by
  unfold takeBlocked
  split
  · exact confirmTrail_deadlineSide s
  · split
    · split
      · exact (deadlineSide_eye s _).trans (raise_laneSide _ _ _).deadlineSide
      · exact .refl s
    · exact .refl s

theorem settleHead_deadlineSide (missed rest : List TrackRecord) (s : State) :
    DeadlineSide s (settleHead missed rest s) :=
  (deadlineSide_tracking s _).trans (raiseAll_laneSide _ _ _).deadlineSide

theorem takeHead_deadlineSide (s : State) : DeadlineSide s (takeHead s) := by
  unfold takeHead expireHead
  split
  · split
    · exact .refl s
    · exact settleHead_deadlineSide _ _ s
  · exact .refl s

theorem takeReservations_laneSide (s : State) : LaneSide s (takeReservations s) := by
  unfold takeReservations
  split
  · exact LaneSide.trans (by constructor <;> first | rfl | exact .refl _) (raiseAll_laneSide _ _ _)
  · exact .refl s

theorem takeFire_deadlineSide (s : State) : DeadlineSide s (takeFire s) := by
  unfold takeFire
  split
  · exact deadlineSide_diverter rfl
  · exact .refl s

theorem takeRelease_deadlineSide (s : State) : DeadlineSide s (takeRelease s) := by
  unfold takeRelease
  split
  · exact deadlineSide_diverter rfl
  · exact .refl s

theorem takeEntries_laneSide (s : State) : LaneSide s (takeEntries s) := by
  unfold takeEntries
  split
  · exact (LaneSide.trans (by constructor <;> first | rfl | exact .refl _) (raiseAll_laneSide _ _ _)).trans
      (settleLane_laneSide _)
  · exact .refl s

/-- The settling leaves P, the plan, the pins, the settings and the queue alone. -/
theorem settle_deadlineSide (s : State) : DeadlineSide s (settle s) :=
  ((((((takeTrailing_deadlineSide s).trans (takeBlocked_deadlineSide _)).trans (takeHead_deadlineSide _)).trans
    (takeReservations_laneSide _).deadlineSide).trans (takeFire_deadlineSide _)).trans
    (takeRelease_deadlineSide _)).trans (takeEntries_laneSide _).deadlineSide

/-! ### Frames and asks -/

theorem takesFrames_of_listening {s : State} (h : Listening s) : takesFrames s = true := by
  obtain ⟨⟨low, -⟩, up, ready⟩ := h
  simp [takesFrames, low, up, ready]

/-- A frame that a listening receiver takes is handled by its kind. -/
theorem received_of_listening {s : State} (h : Listening s) (f : Frame) : received f (settle s) = frameArrives f s := by
  simp [received, settle_of_calm h.1, takesFrames_of_listening h]

/-- A frame at a receiver that takes none is lost (R145, R158). -/
theorem received_of_deaf {s : State} (h : takesFrames s = false) (f : Frame) : received f s = s := by
  simp [received, h]

/-- Every code of Table 9-9 names its ask. -/
theorem askOfByte_code (c : AskCode) : askOfByte c.code = some c := by cases c <;> rfl

/-- A position names no broadcast. -/
theorem positionByte_ne_broadcast (l : LinePort) : positionByte l ≠ 63 := by
  intro h
  have small : l.position.val < 63 := l.position.isLt
  have eq : (positionByte l).toNat = 63 := by rw [h]; rfl
  simp only [positionByte, BitVec.toNat_ofNat] at eq
  omega

/-- An ask of Table 9-9 addressed to the node is carried out and answered (R148, R160). -/
theorem frameArrives_mine {s : State} {target : Byte} (h : Mine target s) (source tag : Byte) (c : AskCode)
    {fields : List Byte} (short : fields.length < 32) :
    frameArrives (ofKind .ask (askFrame c ⟨target, source, tag, fields⟩)) s = answeredAsk tag c fields s := by
  have fits : ¬ Config.maxPayload ≤ fields.length := Nat.not_le_of_gt short
  have mine : addressed target s = true := by simp [addressed, h.1, h.2]
  have notAll : target ≠ 63#8 := h.2 ▸ positionByte_ne_broadcast s.line
  simp [frameArrives, ofKind, askFrame, askArrives, askOf, askOfByte_code, fits, mine, notAll]

/-- An applied or refused ask but NODE RESET: its effect, then its answer (R160). -/
theorem answeredAsk_of_length {c : AskCode} {fs : List Byte} (h : c.lengthOk fs.length = true) (hn : c ≠ .nodeReset)
    (tag : Byte) (s : State) :
    answeredAsk tag c fs s =
      queueAnswer (answerFrame tag c.code (askEffect c fs s).2 (askEffect c fs s).1) (askEffect c fs s).1 := by
  simp [answeredAsk, h, hn]

/-- An ask of a wrong length changes nothing but the local queue (R160). -/
theorem answeredAsk_badLength {c : AskCode} {fs : List Byte} (h : c.lengthOk fs.length = false) (tag : Byte) (s : State) :
    answeredAsk tag c fs s = queueAnswer (answerFrame tag c.code (refusal .badLength) s) s := by
  simp [answeredAsk, h]

end Sys2Proof.Machine
end

