-- ==== Sys2Proof/Laws/Commute.lean ====
section
/-! SUPPORT. Raising an event and joining a queue read the Line Port, the Report Unit, P and the two states of the summary alone, so
they commute with an update of any other block: with these lemmas the parts of one event can be gathered into one record. -/

namespace Sys2Proof.Machine

/-! ### Raising one event -/

theorem raise_with_eye (k : NoteKind) (n : NoteBody) (s : State) (e : Eye) :
    { raise k n s with eye := e } = raise k n { s with eye := e } := rfl

theorem raise_with_tracking (k : NoteKind) (n : NoteBody) (s : State) (q : Tracking) :
    { raise k n s with tracking := q } = raise k n { s with tracking := q } := rfl

theorem raise_with_admission (k : NoteKind) (n : NoteBody) (s : State) (a : Admission) :
    { raise k n s with admission := a } = raise k n { s with admission := a } := rfl

theorem raise_with_counter (k : NoteKind) (n : NoteBody) (s : State) (c : Counter) :
    { raise k n s with counter := c } = raise k n { s with counter := c } := rfl

theorem raise_with_pins (k : NoteKind) (n : NoteBody) (s : State) (p : InputLevels) :
    { raise k n s with pins := p } = raise k n { s with pins := p } := rfl

theorem raise_with_plan (k : NoteKind) (n : NoteBody) (s : State) (p : RoutePlan) :
    { raise k n s with plan := p } = raise k n { s with plan := p } := rfl

/-- A lane with the same lane state. -/
theorem raise_with_lane (k : NoteKind) (n : NoteBody) (s : State) {l : Lane} (h : l.state = s.lane.state) :
    { raise k n s with lane := l } = raise k n { s with lane := l } := by
  simp [raise, noteFrame, summary, h]

/-- A diverter with the same diverter state. -/
theorem raise_with_diverter (k : NoteKind) (n : NoteBody) (s : State) {d : Diverter} (h : d.state = s.diverter.state) :
    { raise k n s with diverter := d } = raise k n { s with diverter := d } := by
  simp [raise, noteFrame, summary, h]

/-! ### Raising several -/

theorem raiseAll_with_eye (k : NoteKind) (ns : List NoteBody) (s : State) (e : Eye) :
    { raiseAll k ns s with eye := e } = raiseAll k ns { s with eye := e } := by
  induction ns generalizing s with
  | nil => rfl
  | cons n ns ih => exact ih (raise k n s)

theorem raiseAll_with_counter (k : NoteKind) (ns : List NoteBody) (s : State) (c : Counter) :
    { raiseAll k ns s with counter := c } = raiseAll k ns { s with counter := c } := by
  induction ns generalizing s with
  | nil => rfl
  | cons n ns ih => exact ih (raise k n s)

theorem raiseAll_with_pins (k : NoteKind) (ns : List NoteBody) (s : State) (p : InputLevels) :
    { raiseAll k ns s with pins := p } = raiseAll k ns { s with pins := p } := by
  induction ns generalizing s with
  | nil => rfl
  | cons n ns ih => exact ih (raise k n s)

/-! ### Joining a queue -/

theorem offerHandOff_with_eye (f : Frame) (tag order : Ident) (lead : Pos) (s : State) (e : Eye) :
    { offerHandOff f tag order lead s with eye := e } = offerHandOff f tag order lead { s with eye := e } := by
  by_cases h : handOffFull s.line = true
  · simp only [offerHandOff, h, if_true]
    rfl
  · simp only [offerHandOff, h]
    rfl

theorem queueAnswer_with_eye (f : Frame) (s : State) (e : Eye) :
    { queueAnswer f s with eye := e } = queueAnswer f { s with eye := e } := rfl

theorem queueAnswer_with_counter (f : Frame) (s : State) (c : Counter) :
    { queueAnswer f s with counter := c } = queueAnswer f { s with counter := c } := rfl

theorem queueAnswer_with_lane (f : Frame) (s : State) (l : Lane) :
    { queueAnswer f s with lane := l } = queueAnswer f { s with lane := l } := rfl

theorem queueAnswer_with_diverter (f : Frame) (s : State) (d : Diverter) :
    { queueAnswer f s with diverter := d } = queueAnswer f { s with diverter := d } := rfl

end Sys2Proof.Machine
end

