-- ==== Sys2Proof/Laws/Frames.lean ====
section
/-! SUPPORT. What the receiver does with the levels of the line (R146). -/

namespace Sys2Proof.Machine

/-- The eight data levels of a byte give the byte back. -/
@[simp] theorem byteOfLevels_bits (b : Byte) : byteOfLevels ([0, 1, 2, 3, 4, 5, 6, 7].map fun i => b.getLsbD i) = b := by
  revert b; decide +kernel

/-- After the idle the receiver takes nothing more of the frame. -/
@[simp] theorem takeLevel_of_ended {r : Receiver} (h : r.ended = true) (level : Bool) : takeLevel r level = r := by
  simp [takeLevel, h]

/-- After the idle the rest of the line leaves the frame as it is. -/
theorem takeLevels_of_ended {r : Receiver} (h : r.ended = true) (levels : List Bool) : levels.foldl takeLevel r = r := by
  induction levels with
  | nil => rfl
  | cons l ls ih => simp [h, ih]

/-- A spoiled frame gathers nothing more, whatever comes. -/
theorem takeLevels_of_spoiled {r : Receiver} (h : r.spoiled = true) (levels : List Bool) :
    (levels.foldl takeLevel r).got = r.got := by
  induction levels generalizing r with
  | nil => rfl
  | cons l ls ih =>
    have next : (takeLevel r l).spoiled = true ∧ (takeLevel r l).got = r.got := by
      cases l <;> by_cases e : r.ended = true <;> simp [takeLevel, idleBit, h, e]
    exact (ih next.1).trans next.2

/-- A byte on the line joins what the receiver has gathered, and the 41st spoils the frame. -/
theorem takeLevels_byte {r : Receiver} (data : r.data = none) (spoiled : r.spoiled = false) (ended : r.ended = false) (b : Byte) :
    (byteLevels b).foldl takeLevel r =
      { got := { r.got with bytes := r.got.bytes ++ [b] }, data := none, idle := 0
        spoiled := decide (Config.spoiledLength ≤ r.got.bytes.length + 1), ended := false } := by
  simpa [byteLevels, takeLevel, stopBit, data, spoiled, ended] using byteOfLevels_bits b

/-- A low stop bit leaves the bytes as they are, marks the framing error and spoils the frame. -/
theorem stopBit_low (data : List Bool) (r : Receiver) :
    stopBit false data r =
      { r with got := { r.got with framingError := true }, data := none, idle := 0, spoiled := true } := by simp [stopBit]

end Sys2Proof.Machine
end

