-- ==== Sys2Proof/WellFormed.lean ====
section
/-! DEFINITION. What a command must be to be one: the bounds that the frame layouts of section 9.9 and the rows of
spec/opcode_table.json put on its operands. The meanings take ill-formed commands too; these checks say which commands a
sender can bring about. -/

namespace Sys2Proof

open Machine

/-- A payload of at most 32 bytes (Table 9-5). -/
def payloadOk (payload : List Byte) : Bool := decide (payload.length ≤ Config.maxPayload)

/-- A header source that a TOTE record can hold: 0 to 63 (Table 3-2). -/
def sourceOk (source : Byte) : Bool := decide (source.toNat ≤ 63)

/-- Header and payload of a valid frame (Table 9-5). -/
def LineFrame.wellFormed (f : LineFrame) : Bool := sourceOk f.source && payloadOk f.payload

/-- An ask: its fields and its code make a payload of at most 32 bytes, and it has a target, the line head being none
(Tables 9-2 and 9-5). -/
def Ask.wellFormed (a : Ask) : Bool :=
  sourceOk a.source && decide (a.fields.length < Config.maxPayload) && a.target != 0

/-- A frame of a kind that may be forwarded as it is: ANSWER, NOTE or ASK (Table 9-2). -/
def Frame.wellFormed (f : Frame) : Bool :=
  payloadOk f.payload && (f.kind == .answer || f.kind == .note || f.kind == .ask)

/-- An ask without a code, or with a code that Table 9-9 does not have (R160). -/
def unknownWellFormed (f : LineFrame) : Bool := f.wellFormed && (askOf f.payload).isNone

/-- The checks on a command. -/
def Instr.wellFormed : Instr → Bool
  | .powerOn _ _ | .resetPinAssert | .resetPinRelease | .encoderEdge _ | .gateExpiry | .eyeChange _ | .trailingEdge
  | .blockedDeadline | .headDeadlineExpiry | .reservationExpiry | .fireReached | .throwEnd _ | .releaseReached
  | .returnEnd _ | .homeActive | .homeWaitExpiry | .zoneEyeChange _ _ | .entryDeadline | .dischargeTimeout
  | .buttonChange _ | .buttonPress | .waitLampExpiry | .transmitterFree | .receiverIdleWaitEnd => true
  -- zone 8 is never below Z, so no transfer starts from it (R122)
  | .transferTimeout zone => decide (zone.val < 7)
  -- a frame is cut off by the loss of the signal, not by its return (R145)
  | .losChange level partly => level || !partly
  -- a frame starts with a start bit (R146), and one that passes every receive check is no frame error (R147)
  | .frameError raw => raw.levels.head? == some false && (receiveCheck (gather raw)).isNone
  | .toteFrame f | .numberFrame f => f.wellFormed
  | .forwardFrame f => f.wellFormed
  | .unknownAsk f => unknownWellFormed f
  | .readStatus a | .readIdentity a | .readTracking a | .readLane a | .readReservations a | .setWindow a
  | .writeEntries a | .continueEntries a | .readEntries a | .continueRead a | .swapPlan a | .copyPlan a
  | .setGeometry a | .setLine a | .setLane a | .setReports a | .clearFlags a | .clearFault a | .pauseLane a
  | .resumeLane a | .release a | .nodeReset a => a.wellFormed

end Sys2Proof
end

