-- ==== Sys2Proof/Tests/Slice0.lean ====
section
/-! SUPPORT. Tests of single steps. Expected values come from the manual: its worked examples where one is named, its tables and
rules otherwise. The theorems `witness_…` show, for the statements that have hypotheses, states and operands that meet them. -/

namespace Sys2Proof.Tests

open Sys2Proof.Machine

set_option Elab.async false
set_option maxRecDepth 20000
set_option synthInstance.maxHeartbeats 400000
set_option synthInstance.maxSize 4000

/-! ### Nodes to test on -/

/-- Node 14 with its link up, its paddle home, every report on and its transmitter busy, so that notes and answers wait in the local
queue. -/
def node : State :=
  { State.reset with
    diverter := { State.reset.diverter with state := .rest, phase := none }
    line := { State.reset.line with position := 14, receiverReady := true, sending := some ⟨.note, 0, 0, 0, []⟩ }
    report := { State.reset.report with enables := BitVec.allOnes 21, globalEnable := true } }

/-- The node at a position, with S = 160 at G = 64 ms: 2.5 counts a millisecond. -/
def nodeAt (p : Nat) : State :=
  { node with belt := { node.belt with pos := BitVec.ofNat 24 p, speed := 160, state := .running } }

/-- The next state of a command. -/
def after (c : Instr) (s : State) : State :=
  match exec c s with
  | .next t => t
  | .fault _ => s
  | .refused _ => s

/-- The payloads that wait in the local queue. -/
def waiting (s : State) : List (List Byte) := s.line.localQueue.map fun f => f.payload

/-- The NOTE payload of Table 9-8, written out from its fields. -/
def noteOf (kind order tote detail value pos summary : Nat) : List Byte :=
  [kind, tote / 256, tote, order / 256, order, detail, value / 256, value, pos / 65536, pos / 256, pos, summary].map
    (BitVec.ofNat 8)

/-- A tote of an order for destination 14, class 1 (section 5.10). -/
def tote (toteTag order seq count : Nat) : ToteFields :=
  { tag := BitVec.ofNat 16 toteTag, order := BitVec.ofNat 16 order, dest := some 14, cls := 1, seq := seq, count := count,
    refusals := 0, source := 13, adjusted := false }

/-- A record with a window of 100 counts about a position. -/
def expect (t : ToteFields) (p : Nat) : TrackRecord :=
  ⟨t, BitVec.ofNat 24 p, BitVec.ofNat 24 (p - 100), BitVec.ofNat 24 (p + 100)⟩

/-- The node with a tracking queue and its head deadline. -/
def tracks (q : List TrackRecord) (s : State) : State :=
  { s with tracking := { s.tracking with queue := q, headDeadline := headDeadlineOf q } }

/-- The node with one action for destination 14, class 1, in bank A. -/
def planned (a : Action) (s : State) : State :=
  { s with plan := { s.plan with bankA := putCell s.plan.bankA ⟨14, 1⟩ a } }

/-- A zone that holds a tote. -/
def holds (t : ToteFields) : Zone := ⟨.held, some ⟨t, false⟩, false, none⟩

/-- The node with zones 1 to 4 and their eyes blocked or clear. -/
def laned (z1 z2 z3 z4 : Zone) (b1 b2 b3 b4 : Bool) (s : State) : State :=
  { s with
    lane := { s.lane with zones := #v[z1, z2, z3, z4, emptyZone, emptyZone, emptyZone, emptyZone] }
    pins := { s.pins with zeye := #v[!b1, !b2, !b3, !b4, true, true, true, true] } }

/-- A passing zone, and a filling one. -/
def passing (t : ToteFields) : Zone := ⟨.passing, some ⟨t, false⟩, false, some ⟨0, 1500⟩⟩
def filling : Zone := ⟨.filling, none, false, none⟩

/-- The node with its diverter in a state, with positions. -/
def drives (state : DiverterState) (phase : Option Phase) (fire release clear : Option Pos) (flag : Bool) (s : State) : State :=
  { s with diverter := { s.diverter with
      state := state, phase := phase, fire := fire, release := release, clear := clear, flag := flag } }

/-- The node with its eye on a tote. -/
def sees (state : EyeState) (context : EyeContext) (lead clearing debounceEnd : Option Pos) (blocked : Option BlockedDeadline)
    (s : State) : State :=
  { s with eye := { s.eye with
      state := state, context := context, lead := lead, clearing := clearing, debounceEnd := debounceEnd,
      blockedDeadline := blocked } }

/-- The node with its READY lamp lit. -/
def lit (s : State) : State := { s with counter := { s.counter with readyLit := true } }

/-- An ask for node 14. -/
def askOf14 (fields : List Byte) : Ask := ⟨14, 0, 41, fields⟩

/-- Tote 301 of order 77 expected at the eye, a GROUP tote, with a single record in zone 4 (section 5.10). -/
def before301 : State :=
  lit <| planned .group (tracks [expect (tote 301 77 1 3) 50000]
    (laned emptyZone emptyZone emptyZone (holds (tote 120 0 1 1)) false false false true (nodeAt 50000)))

/-- Order 77 at the front of a lane in ORDER mode, READY lit (section 8.9). -/
def orderLane : State :=
  let s := laned (holds (tote 401 80 1 3)) (holds (tote 303 77 3 3)) (holds (tote 302 77 2 3)) (holds (tote 301 77 1 3))
    true true true true (nodeAt 60000)
  lit { s with lane := { s.lane with mode := .order } }

/-! ### Well-formed commands -/

theorem test_source_above_63_is_ill_formed : (Instr.toteFrame ⟨0, 64, 0, []⟩).wellFormed = false := by decide +kernel
theorem test_long_payload_is_ill_formed : (Instr.numberFrame ⟨0, 1, 0, List.replicate 33 0⟩).wellFormed = false := by decide +kernel
theorem test_long_ask_is_ill_formed : (Instr.writeEntries ⟨14, 0, 0, List.replicate 32 0⟩).wellFormed = false := by decide +kernel
theorem test_ask_without_target_is_ill_formed : (Instr.readStatus ⟨0, 0, 0, []⟩).wellFormed = false := by decide +kernel
theorem test_ask_source_above_63_is_ill_formed : (Instr.readStatus ⟨14, 64, 0, []⟩).wellFormed = false := by decide +kernel
theorem test_tote_is_not_forwarded : (Instr.forwardFrame ⟨.tote, 0, 0, 0, []⟩).wellFormed = false := by decide +kernel
theorem test_long_forward_is_ill_formed :
    (Instr.forwardFrame ⟨.note, 0, 0, 0, List.replicate 33 0⟩).wellFormed = false := by decide +kernel
theorem test_known_code_is_no_unknown_ask : (Instr.unknownAsk ⟨14, 0, 0, [0x01]⟩).wellFormed = false := by decide +kernel
theorem test_zone8_has_no_transfer : (Instr.transferTimeout 7).wellFormed = false := by decide +kernel
theorem test_return_of_signal_cuts_no_frame : (Instr.losChange false true).wellFormed = false := by decide +kernel
theorem test_valid_frame_is_no_error :
    (Instr.frameError ⟨lineLevels (frameBytes ⟨.number, 0, 1, 0, [2]⟩)⟩).wellFormed = false := by decide +kernel
theorem test_good_commands_are_well_formed :
    (Instr.toteFrame ⟨0, 63, 0, List.replicate 32 0⟩).wellFormed && (Instr.writeEntries ⟨63, 0, 0, List.replicate 31 0⟩).wellFormed
      && (Instr.unknownAsk ⟨14, 0, 0, [0x06]⟩).wellFormed && (Instr.transferTimeout 6).wellFormed
      && (Instr.frameError ⟨byteLevels 0xA5⟩).wellFormed = true := by decide +kernel

/-! ### Frames (section 9.9) -/

/-- The check value of this check (polynomial 1021h, start FFFFh) over the nine digits, as published for it. -/
theorem test_crc_of_digits : crc [0x31, 0x32, 0x33, 0x34, 0x35, 0x36, 0x37, 0x38, 0x39] = 0x29B1#16 := by decide +kernel

/-- Table 9-5: sync, kind 01h, target, source, tag, length, payload, and two bytes of check. -/
theorem test_frame_bytes : (frameBytes ⟨.number, 0, 1, 0, [2]⟩).take 7 = [0xA5, 0x01, 0, 1, 0, 1, 2] ∧
    (frameBytes ⟨.number, 0, 1, 0, [2]⟩).length = 9 := by decide +kernel

/-- R146: A3h is a low start bit, then 1, 1, 0, 0, 0, 1, 0, 1 from the least significant bit, then a high stop bit. -/
theorem test_byte_levels :
    byteLevels 0xA3 = [false, true, true, false, false, false, true, false, true, true] := by decide +kernel

/-- R146: after a low stop bit the receiver takes no more of the frame, until an idle of 16 bit times has ended it. -/
theorem test_framing_error_ends_the_bytes :
    gather ⟨lineLevels [0xA5, 7] ++ List.replicate 10 false ++ lineLevels [9]⟩ = ⟨[0xA5, 7], true⟩ ∧
    gather ⟨lineLevels [0xA5, 7] ++ List.replicate 16 true ++ lineLevels [9]⟩ = ⟨[0xA5, 7], false⟩ := by decide +kernel

/-! ### Table 0-3, signed distance -/

theorem test_signed_distance : Machine.signedDist 1000 1400 = 400 ∧ Machine.signedDist 1400 1000 = -400 ∧
    Machine.signedDist 16777100 251 = 367 ∧ Machine.signedDist 1099 1020 = -79 := by decide +kernel

/-- R5: a deadline half the range away lies behind P, and one count less far it lies ahead. -/
theorem test_deadline_half_a_range_away :
    reachedWhenSet 0 8388608 = true ∧ reachedWhenSet 0 8388607 = false ∧ reachedWhenSet 7 7 = true := by decide +kernel

/-! ### Resets -/

/-- R133: a tote at zone 2 at power-on is held anonymous and begins to advance; R27, R136, R145: the other samples. -/
theorem test_power_on_samples :
    let s := after (.powerOn true ⟨false, true, #v[true, false, true, true, true, true, true, true], false, true⟩) node
    (s.eye.context, s.counter.button, s.line.link, s.belt.encRef) = (.noLead, .spent, .down, true) ∧
    zone s.lane 2 = ⟨.passing, some anonymousRecord, false, some ⟨0, 1500⟩⟩ ∧ zone s.lane 3 = filling := by decide +kernel

/-- R158: the frame being sent is cut off, and the outputs are low. -/
theorem test_reset_pin_assert :
    let s := after .resetPinAssert (drives .throwing none none none none false node)
    s.line.sending = none ∧ drvEn s = .low ∧ s.diverter.state = .throwing := by decide +kernel

/-- R14, R49, R91, R113, R170: what the reset loses, P kept. -/
theorem test_reset_pin_release :
    let s := after .resetPinRelease { before301 with resetLow := true }
    (s.tracking.queue, s.diverter.state, s.report.cause, s.belt.pos, s.belt.speed) = ([], .returning, .resetPin, 50000, 160) ∧
    zone s.lane 4 = holds (tote 120 0 1 1) := by decide +kernel

/-- R157, R166: the answer is the first local frame after the reset; READY then lights anew for record 120 (R142, R144). -/
theorem test_node_reset :
    let s := after (.nodeReset (askOf14 [])) before301
    waiting s = [[0x3F, 0, 0], noteOf 14 0 120 1 1 50000 0x40] ∧ s.diverter.phase = some ⟨.returning, 0, 70, 0⟩ ∧ s.report.cause = .nodeReset := by decide +kernel

/-! ### The belt -/

/-- R3: from 16,777,215 P advances to 0, and the accumulator takes the edge. -/
theorem test_edge_wraps :
    (after (.encoderEdge true) (nodeAt 16777215)).belt.pos = 0 ∧ (after (.encoderEdge true) (nodeAt 16777215)).belt.acc = 1 := by decide +kernel

/-- R1: with RISING a falling edge changes the reference level only. -/
theorem test_falling_edge :
    let s := { nodeAt 7 with belt := { (nodeAt 7).belt with encRef := true } }
    (after (.encoderEdge false) s).belt = { s.belt with encRef := false } := by decide +kernel

/-- Section 1.8 at 192 ms: BELT_STOPPED, value 90, position 50,250. -/
theorem test_gate_stops :
    let s := { nodeAt 50250 with belt := { (nodeAt 50250).belt with speed := 90 } }
    (after .gateExpiry s).belt.state = .stopped ∧ waiting (after .gateExpiry s) = [noteOf 18 0 0 0 90 50250 0] := by decide +kernel

/-- Section 1.8 at 256 ms: BELT_RUNNING, value 65, position 50,315. -/
theorem test_gate_runs :
    let s := { node with belt := { node.belt with pos := 50315, acc := 65 } }
    (after .gateExpiry s).belt.speed = 65 ∧ waiting (after .gateExpiry s) = [noteOf 19 0 0 0 65 50315 0] := by decide +kernel

/-! ### The eye -/

/-- Section 5.10, tote 301: fire 50,375, entry deadline 51,500, order 77 with 2 zones and expiry 90,000; zone 1 is FILLING. -/
theorem test_tote_301 :
    let s := after (.eyeChange false) before301
    (s.diverter.state, s.diverter.fire) = (.armed, some 50375) ∧
    s.lane.inbound = [⟨⟨tote 301 77 1 3, false⟩, 51500⟩] ∧ s.admission.table = [⟨77, 2, 90000⟩] ∧
    (zone s.lane 1).state = .filling ∧ waiting s = [] := by decide +kernel

/-- Section 5.10, tote 415: CROWDED, CARRIED with deadline 52,060; the trim takes order 77 from 2 zones to 1. -/
theorem test_tote_415 :
    let s := drives .throwing none none (some 51040) (some 51215) false (nodeAt 50560)
    let t := { laned filling emptyZone emptyZone (holds (tote 120 0 1 1)) false false false true s with
      admission := { s.admission with table := [⟨77, 2, 90000⟩] } }
    let u := after (.eyeChange false) (tracks [expect { tote 415 0 1 1 with dest := some 20 } 50560]
      { t with lane := { t.lane with inbound := [⟨⟨tote 301 77 1 3, false⟩, 51500⟩] } })
    u.lane.inbound.map (fun r => (r.record.tote.tag, r.record.carried, r.deadline)) = [(301, false, 51500), (415, true, 52060)] ∧
    u.admission.table = [⟨77, 1, 90000⟩] ∧ waiting u = [noteOf 7 0 415 0 0 50560 0x20] ∧ u.line.handOff = [] := by decide +kernel

/-- Section 2.12 at 10,850: tote A of length 842 is confirmed, trailing position 10,842, release 11,472. -/
theorem test_trailing_edge :
    let t : ToteFields := { tote 5012 311 1 1 with cls := 1 }
    let s := after .trailingEdge (sees .clearing (.matched t 10000 .diverted) (some 10000) (some 10842) (some 10850)
      (some ⟨11200, 1200⟩) (drives .throwing none none none none false (nodeAt 10850)))
    s.eye.state = .clear ∧ s.eye.context = .empty ∧ s.diverter.release = some 11472 ∧ s.diverter.clear = some 11647 ∧
    waiting s = [] := by decide +kernel

/-- R22: a length of 861 with nominal 800 and tolerance 60 is a LENGTH_MISMATCH at the trailing position. -/
theorem test_length_mismatch :
    let s := after .trailingEdge (sees .clearing (.matched (tote 5012 311 1 1) 10000 .pass) (some 10000) (some 10861)
      (some 10869) none (nodeAt 10869))
    waiting s = [noteOf 4 311 5012 1 861 10861 0] := by decide +kernel

/-- Section 2.13 at 21,200: EYE_BLOCKED, value 1,200, and the deadline is removed. -/
theorem test_blocked_deadline :
    let s := after .blockedDeadline (sees .blocked (.matched (tote 7201 0 1 1) 20000 .pass) (some 20000) none none
      (some ⟨21200, 1200⟩) (nodeAt 21200))
    waiting s = [noteOf 5 0 7201 0 1200 21200 0] ∧ s.eye.blockedDeadline = none ∧ s.eye.state = .blocked := by decide +kernel

/-! ### Tracking -/

/-- Section 3.9 at 40,000: window 41,900 to 42,100, head deadline 42,101. R31: class 9 is taken as 0 and marked. -/
theorem test_tote_frame :
    let s := after (.toteFrame ⟨0, 7, 0, [0x04, 0x4D, 0, 5, 14, 9, 1, 1, 0]⟩) (nodeAt 40000)
    s.tracking.queue.map (fun r => (r.tote.tag, r.tote.cls, r.tote.adjusted, r.windowStart, r.windowEnd)) =
      [(1101, 0, true, 41900, 42100)] ∧ s.tracking.headDeadline = some 42101 := by decide +kernel

/-- R147: a TOTE frame of 8 bytes is counted. -/
theorem test_short_tote_frame : (after (.toteFrame ⟨0, 7, 0, List.replicate 8 1⟩) node).line.errors = 1 := by decide +kernel

/-- Section 3.10 at 72,101: two records expire in one run, with values 1 and 2. -/
theorem test_head_deadline_run :
    let r := fun k => expect { tote k 0 1 1 with source := 0 } 72000
    let s := after .headDeadlineExpiry (tracks [r 2001, r 2002, expect { tote 2003 0 1 1 with source := 0 } 72400] (nodeAt 72101))
    waiting s = [noteOf 2 0 2001 0 1 72101 0, noteOf 2 0 2002 0 2 72101 0] ∧ s.tracking.headDeadline = some 72501 := by decide +kernel

/-- Section 5.10: an entry that lapses at 90,000, RESERVATION_LAPSED detail 0, value 1. -/
theorem test_reservation_expiry :
    let s := after .reservationExpiry { nodeAt 90000 with
      admission := { node.admission with table := [⟨77, 1, 90000⟩, ⟨78, 2, 90001⟩] } }
    s.admission.table = [⟨78, 2, 90001⟩] ∧ waiting s = [noteOf 16 77 0 0 1 90000 0] := by decide +kernel

/-! ### The diverter -/

/-- Section 6.13 at 251, with a throw time of 90 ms. -/
theorem test_fire_reached :
    let s := after .fireReached (drives .armed none (some 251) none none false (nodeAt 251))
    (s.diverter.state, s.diverter.fire, s.diverter.phase) = (.throwing, none, some ⟨.throwing, 0, 90, 0⟩) ∧
    drvEn s = .high ∧ drvDir s = true := by decide +kernel

/-- Section 6.13 at about 483: HOLDING, DRV_EN 6/16. -/
theorem test_throw_end :
    let s := after (.throwEnd false)
      (drives .throwing (some ⟨.throwing, 90, 90, 0⟩) none (some 924) (some 1099) false (nodeAt 483))
    s.diverter.state = .holding ∧ drvEn s = .pulsed 6 := by decide +kernel

/-- R103, R108: HOME still active at the end of the throw is FAULT detail THROW, value 90; summary FAULT is 5. -/
theorem test_throw_fails :
    let s := after (.throwEnd true) (drives .throwing (some ⟨.throwing, 90, 90, 0⟩) none none none true (nodeAt 483))
    s.diverter.state = .fault ∧ s.diverter.flag = false ∧ waiting s = [noteOf 17 0 0 0 90 483 0x50] := by decide +kernel

/-- Section 6.13 at 924. -/
theorem test_release_reached :
    let s := after .releaseReached (drives .holding none none (some 924) (some 1099) false (nodeAt 924))
    (s.diverter.state, s.diverter.phase, s.diverter.release) = (.returning, some ⟨.returning, 0, 70, 0⟩, some 924) ∧
    drvDir s = false := by decide +kernel

/-- Section 6.14 at 11,380: with fire 11,385 stored the return ends in ARMED, the flag still set. -/
theorem test_return_end :
    let s := after (.returnEnd true)
      (drives .returning (some ⟨.returning, 70, 70, 0⟩) (some 11385) none (some 11380) true (nodeAt 11380))
    (s.diverter.state, s.diverter.fire, s.diverter.clear, s.diverter.flag) = (.armed, some 11385, some 11380, true) := by decide +kernel

/-- R105: HOME not active starts the home wait with the grace of 50 ms. -/
theorem test_home_wait :
    (after (.returnEnd false) (drives .returning (some ⟨.returning, 70, 70, 0⟩) none none none false node)).diverter.phase =
      some ⟨.homeWait, 0, 50, 70⟩ := by decide +kernel

/-- R106: HOME becoming active in the home wait gives REST with no position left. -/
theorem test_home_active :
    let s := after .homeActive (drives .returning (some ⟨.homeWait, 9, 50, 70⟩) none (some 924) (some 1099) false node)
    (s.diverter.state, s.diverter.release, s.diverter.clear, s.diverter.phase) = (.rest, none, none, none) := by decide +kernel

/-- Section 6.15: DIVERTER_FAULT detail 1, value 70 + 50. -/
theorem test_home_wait_expiry :
    let s := after .homeWaitExpiry (drives .returning (some ⟨.homeWait, 50, 50, 70⟩) none none none false (nodeAt 9))
    s.diverter.state = .fault ∧ waiting s = [noteOf 17 0 0 1 120 9 0x50] := by decide +kernel

/-! ### The lane -/

/-- Section 7.11 at t = 520: tote 301 enters with 200 counts to spare and passes on at once. -/
theorem test_zone1_entry :
    let s := lit (laned filling emptyZone emptyZone (holds (tote 120 0 1 1)) false false false true (nodeAt 51300))
    let t := after (.zoneEyeChange 0 false) { s with lane := { s.lane with inbound := [⟨⟨tote 301 77 1 1, false⟩, 51500⟩] } }
    zone t.lane 1 = passing (tote 301 77 1 1) ∧ zone t.lane 2 = filling ∧ t.lane.inbound = [] ∧
    waiting t = [noteOf 9 77 301 0 200 51300 0] := by decide +kernel

/-- Section 7.11 at t = 3,400: the discharge of 120 completes and 301 follows from zone 3. -/
theorem test_discharge :
    let s := laned emptyZone (holds (tote 302 77 1 1)) (holds (tote 301 77 1 1)) ⟨.passing, some ⟨tote 120 0 1 1, false⟩, false, none⟩
      false true true true (nodeAt 58500)
    let t := after (.zoneEyeChange 3 true) { s with
      lane := { s.lane with discharge := some ⟨400, 2000⟩ }, counter := { s.counter with release := .discharging } }
    zone t.lane 3 = passing (tote 301 77 1 1) ∧ zone t.lane 4 = filling ∧ (zone t.lane 2).state = .held ∧
    t.counter.release = .idle ∧ waiting t = [noteOf 13 0 120 0 1 58500 0] := by decide +kernel

/-- Section 7.12 at 1,500: LANE_JAM tag 302, detail 1, value 2; motors off; summary JAMMED is 2. -/
theorem test_transfer_timeout :
    let s := after (.transferTimeout 1) (laned emptyZone (passing (tote 302 0 1 1)) filling (holds (tote 120 0 1 1)) false false false
      true (nodeAt 61000))
    s.lane.state = .jammed ∧ zmot s 2 = false ∧ waiting s = [noteOf 12 0 302 1 2 61000 0x02] := by decide +kernel

/-- R120, R117: the last inbound record is missed and zone 1 is EMPTY again. -/
theorem test_entry_deadline :
    let s := laned filling emptyZone emptyZone emptyZone false false false false (nodeAt 51500)
    let t := after .entryDeadline { s with lane := { s.lane with inbound := [⟨⟨tote 415 0 1 1, true⟩, 51500⟩] } }
    zone t.lane 1 = emptyZone ∧ t.lane.inbound = [] ∧ waiting t = [noteOf 10 0 415 0 1 51500 0] := by decide +kernel

/-- R126, R141: a discharge timeout jams with detail 2 and value Z, and ends the release. -/
theorem test_discharge_timeout :
    let s := laned emptyZone emptyZone emptyZone ⟨.passing, some ⟨tote 120 0 1 1, false⟩, false, none⟩ false false false true (nodeAt 8)
    let t := after .dischargeTimeout { s with
      lane := { s.lane with discharge := some ⟨2000, 2000⟩ }
      counter := { s.counter with release := .discharging, pressWaits := true } }
    t.lane.state = .jammed ∧ t.counter.release = .idle ∧ t.counter.pressWaits = false ∧
    waiting t = [noteOf 12 0 120 2 4 8 0x02] := by decide +kernel

/-- R126, R141: 77/1 completes with its discharge timer at its limit: RELEASED with MORE (kind 13, detail 1), and no jam. Then the
timeout is taken: LANE_JAM detail 2 with zone 4 EMPTY (kind 12), which ends the release and its pending press. -/
theorem test_completion_with_timeout :
    let s := laned emptyZone emptyZone (holds (tote 302 77 2 3)) (passing (tote 301 77 1 3)) false false true true (nodeAt 60000)
    let t := after (.zoneEyeChange 3 true) { s with
      lane := { s.lane with discharge := some ⟨2000, 2000⟩ }
      counter := { s.counter with release := .discharging, group := some 77, pressWaits := true } }
    let u := after .dischargeTimeout t
    (t.lane.state, t.counter.release, t.counter.pressWaits, t.lane.discharge) = (.running, .waiting, true, none) ∧
    (u.lane.state, u.counter.release, u.counter.group, u.counter.pressWaits) = (.jammed, .idle, none, false) ∧
    (waiting u).map (fun n => (n.getD 0 0, n.getD 5 0)) = [(13, 1), (12, 2)] := by decide +kernel

/-- R126: a completion before the timer has run out leaves no timeout to take, and a millisecond after one at the limit neither. -/
theorem test_completion_stops_the_timer :
    let s := laned emptyZone emptyZone emptyZone (passing (tote 301 77 1 3)) false false false true (nodeAt 60000)
    let ended := fun elapsed => after (.zoneEyeChange 3 true) { s with
      lane := { s.lane with discharge := some ⟨elapsed, 2000⟩ }, counter := { s.counter with release := .discharging } }
    (after .dischargeTimeout (ended 1999)).lane.state = .running ∧
    (after .dischargeTimeout (tickTimers (ended 2000))).lane.state = .running := by decide +kernel

/-! ### The counter -/

theorem test_button_change :
    (after (.buttonChange false) node).counter.button = .timing ∧ (after (.buttonChange false) node).counter.buttonTimer = some 0 := by decide +kernel

/-- Section 8.9, the first press: DISCHARGING with group 77, READY dark. -/
theorem test_button_press :
    let s := { orderLane with counter := { orderLane.counter with button := .timing, buttonTimer := some 20 } }
    let t := after .buttonPress s
    (t.counter.release, t.counter.group, t.counter.readyLit, t.counter.button) = (.discharging, some 77, false, .spent) ∧
    (zone t.lane 4).state = .passing := by decide +kernel

/-- R137, R143: a press with zone 4 EMPTY is refused with EMPTY and lights the WAIT lamp. -/
theorem test_button_refused :
    let t := after .buttonPress { nodeAt 5 with counter := { node.counter with button := .timing, buttonTimer := some 20 } }
    waitLamp t = true ∧ waiting t = [noteOf 15 0 0 2 0 5 0] := by decide +kernel

theorem test_wait_lamp_expiry :
    waitLamp (after .waitLampExpiry { node with counter := { node.counter with waitTimer := some 2000 } }) = false := by decide +kernel

/-- R165: RELEASE while RELEASING is PENDING, outcome 1. -/
theorem test_release_pending :
    let t := after (.release (askOf14 [])) { orderLane with counter := { orderLane.counter with release := .waiting, group := some 77 } }
    t.counter.pressWaits = true ∧ waiting t = [[0x33, 0, 0, 1, 0]] := by decide +kernel

/-- R130, R142: a pause darkens the READY lamp. -/
theorem test_pause_lane :
    let t := after (.pauseLane (askOf14 [])) orderLane
    t.lane.state = .paused ∧ readyLamp t = false ∧ waiting t = [[0x31, 0, 0, 1]] := by decide +kernel

/-- R142: a resume lights it again, with ORDER_READY for order 77, count 3. -/
theorem test_resume_lane :
    let t := after (.resumeLane (askOf14 [])) { orderLane with
      lane := { orderLane.lane with state := .paused }, counter := { orderLane.counter with readyLit := false } }
    readyLamp t = true ∧ waiting t = [noteOf 14 77 301 0 3 60000 0, [0x32, 0, 0, 0]] := by decide +kernel

/-! ### The ring line -/

/-- R145: LOS high with a frame partly received is counted once, then LINK_CHANGE detail 0, value 1. -/
theorem test_los_change :
    let t := after (.losChange true true) (nodeAt 3)
    t.line.link = .down ∧ t.line.receiverReady = false ∧ waiting t = [noteOf 21 0 0 0 1 3 0] := by decide +kernel

/-- R147: the line error count saturates at 65,535. -/
theorem test_frame_error :
    (after (.frameError ⟨lineLevels [0xA5, 1, 2]⟩) { node with line := { node.line with errors := 65535 } }).line.errors = 65535 := by decide +kernel

/-- Section 9.7: NUMBER 1 gives position 1, and NUMBER 2 with source 1 is sent on. -/
theorem test_number_frame :
    let t := after (.numberFrame ⟨0, 0, 0, [1]⟩) node
    t.line.position = 1 ∧ t.line.forward = [⟨.number, 0, 1, 0, [2]⟩] := by decide +kernel

/-- R149: NUMBER 63 makes the node unnumbered and goes on as 63. -/
theorem test_number_63 :
    let t := after (.numberFrame ⟨0, 0, 0, [63]⟩) node
    t.line.position = 0 ∧ t.line.forward = [⟨.number, 0, 0, 0, [63]⟩] := by decide +kernel

/-- R151: the fifth frame to be forwarded is discarded, LINE_OVERRUN with value kind 12h. -/
theorem test_forward_overrun :
    let f : Frame := ⟨.note, 0, 9, 0, [1]⟩
    let s := { nodeAt 6 with line := { node.line with forward := List.replicate 4 f } }
    (after (.forwardFrame f) s).line.forward.length = 4 ∧ waiting (after (.forwardFrame f) s) = [noteOf 20 0 0 0 0x12 6 0] := by decide +kernel

/-- Section 9.8 after H1: credit 3 and L1 waiting, so L1 is sent and the credit is 0. -/
theorem test_transmitter_local :
    let f := fun k => (⟨.answer, 0, 9, 0, [k]⟩ : Frame)
    let s := { node with line := { node.line with forward := [f 4, f 5, f 6, f 7], localQueue := [f 1, f 2], credit := 3 } }
    (after .transmitterFree s).line.sending = some (f 1) ∧ (after .transmitterFree s).line.credit = 0 := by decide +kernel

/-- Section 9.8 after F0: F1 is sent and the credit is 1. -/
theorem test_transmitter_forward :
    let f := fun k => (⟨.answer, 0, 9, 0, [k]⟩ : Frame)
    let s := { node with line := { node.line with forward := [f 4, f 5, f 6], localQueue := [f 1, f 2], credit := 0 } }
    (after .transmitterFree s).line.sending = some (f 4) ∧ (after .transmitterFree s).line.credit = 1 := by decide +kernel

theorem test_receiver_idle :
    (after .receiverIdleWaitEnd { node with line := { node.line with receiverReady := false } }).line.receiverReady = true := by decide +kernel

/-- R160: no code is BAD_LENGTH with code 00h; an unknown code is UNKNOWN_ASK. -/
theorem test_unknown_ask :
    waiting (after (.unknownAsk ⟨14, 0, 41, []⟩) node) = [[0, 1, 0]] ∧
    waiting (after (.unknownAsk ⟨14, 0, 41, [0x40, 1]⟩) node) = [[0x40, 4, 0]] := by decide +kernel

/-! ### Reads -/

/-- R161, Table 10-2: cause, link, belt state, S, P, diverter, lane, held, inbound, reserved, tracking count, bank, cursor, done, flags,
lost, errors. -/
theorem test_read_status :
    waiting (after (.readStatus (askOf14 [])) before301) =
      [[0x01, 0, 0, 0, 1, 1, 0, 160, 0, 0xC3, 0x50, 0, 0, 1, 0, 0, 1, 0, 0, 0, 0, 0, 0, 0, 0, 0, 0]] := by decide +kernel

theorem test_read_identity :
    waiting (after (.readIdentity (askOf14 [])) node) = [[0x02, 0, 0, 0x57, 0x0C, 0x44, 1, 1, 64, 4, 16, 4, 8, 4]] := by decide +kernel

/-- R162: POSITIONS of the head: expected 50,000, window 49,900 to 50,100. -/
theorem test_read_tracking :
    waiting (after (.readTracking (askOf14 [0, 1])) before301) =
      [[0x03, 0, 0, 1, 1, 0, 0xC3, 0x50, 0, 0xC2, 0xEC, 0, 0xC3, 0xB4]] := by decide +kernel

/-- R163: zone 4 HELD with record 120; a first zone of 0 is BAD_VALUE. -/
theorem test_read_lane :
    waiting (after (.readLane (askOf14 [0, 4])) before301) =
      [[0x04, 0, 0, 0, 4, 1, 2, 0, 120, 0, 0, 14, 1, 1, 1, 0, 13, 0, 0]] ∧
    waiting (after (.readLane (askOf14 [0, 0])) before301) = [[0x04, 2, 0]] := by decide +kernel

theorem test_read_reservations :
    waiting (after (.readReservations (askOf14 [])) { node with admission := { node.admission with table := [⟨77, 2, 90000⟩] } }) =
      [[0x05, 0, 0, 1, 0, 77, 2, 1, 0x5F, 0x90]] := by decide +kernel

/-! ### The plan (section 4.8) -/

/-- Destinations 10 to 17, classes 1 to 2, DEST_FIRST. -/
def windowed : State :=
  { node with plan := { node.plan with
      d0 := 10, d1 := 17, c0 := 1, c1 := 2, order := .destFirst, write := ⟨⟨10, 1⟩, false⟩, read := ⟨⟨10, 1⟩, false⟩ } }

theorem test_set_window :
    let t := after (.setWindow (askOf14 [10, 17, 1, 2, 0])) node
    t.plan = windowed.plan ∧ waiting t = [[0x10, 0, 0, 10, 17, 1, 2, 0]] := by decide +kernel

/-- R52: a last class of 9 is clamped to 3; an inverted window is BAD_VALUE. -/
theorem test_set_window_clamps :
    waiting (after (.setWindow (askOf14 [10, 17, 1, 9, 0])) node) = [[0x10, 0, 1, 10, 17, 1, 3, 0]] ∧
    waiting (after (.setWindow (askOf14 [18, 17, 1, 2, 0])) node) = [[0x10, 2, 0]] := by decide +kernel

/-- Ten GROUP values: the cursor stands at 12, class 2; destination 11 class 2 is written, 12 is not. -/
theorem test_write_entries :
    let t := after (.writeEntries (askOf14 (List.replicate 10 2))) windowed
    waiting t = [[0x11, 0, 0, 10, 0, 12, 2, 0]] ∧ cellOf t.plan.bankB ⟨11, 2⟩ = .group ∧ cellOf t.plan.bankB ⟨12, 2⟩ = .pass ∧
    cellOf t.plan.bankA ⟨11, 2⟩ = .pass := by decide +kernel

/-- Then ten more: 6 written, 4 discarded, the cursor done on 17, class 2. -/
theorem test_continue_entries :
    let s := { windowed with plan := { windowed.plan with write := ⟨⟨12, 2⟩, false⟩ } }
    let t := after (.continueEntries (askOf14 [2, 2, 2, 2, 2, 1, 2, 2, 2, 2])) s
    waiting t = [[0x12, 0, 0, 6, 4, 17, 2, 1]] ∧ cellOf t.plan.bankB ⟨17, 2⟩ = .divert := by decide +kernel

/-- A read of 28 from the window start returns the 16 cells of the window; all PASS here. -/
theorem test_read_entries :
    let t := after (.readEntries (askOf14 [3, 28])) windowed
    waiting t = [[0x13, 0, 0, 16] ++ List.replicate 16 0] ∧ t.plan.read = ⟨⟨17, 2⟩, true⟩ := by decide +kernel

/-- The read that goes on from a done cursor returns nothing. -/
theorem test_continue_read :
    waiting (after (.continueRead (askOf14 [3, 28])) { windowed with plan := { windowed.plan with read := ⟨⟨17, 2⟩, true⟩ } }) =
      [[0x14, 0, 0, 0]] := by decide +kernel

theorem test_swap_plan :
    let t := after (.swapPlan (askOf14 [])) { windowed with plan := { windowed.plan with write := ⟨⟨17, 2⟩, true⟩ } }
    t.plan.active = .b ∧ t.plan.write = ⟨⟨10, 1⟩, false⟩ ∧ waiting t = [[0x15, 0, 0, 1]] := by decide +kernel

theorem test_copy_plan :
    let t := after (.copyPlan (askOf14 [])) (planned .divert node)
    cellOf t.plan.bankB ⟨14, 1⟩ = .divert ∧ waiting t = [[0x16, 0, 0, 1]] := by decide +kernel

/-! ### Settings -/

/-- R92: E_p of 5,000 is clamped to 4,095; a format version of 2 is BAD_FORMAT. -/
theorem test_set_geometry :
    let t := after (.setGeometry (askOf14 [1, 0x13, 0x88, 90, 40, 30, 70, 20, 50, 6])) node
    t.diverter.geometry = { powerOnGeometry with eyeToPaddle := 4095 } ∧
    waiting t = [[0x20, 0, 1, 1, 0x0F, 0xFF, 90, 40, 30, 70, 20, 50, 6]] ∧
    waiting (after (.setGeometry (askOf14 [2, 0, 0, 90, 40, 30, 70, 20, 50, 6])) node) = [[0x20, 5, 0]] := by decide +kernel

/-- Section 10.5: debounce 70 to 63, upstream 0 to 1, limit 20 to 15, CLAMPED. -/
theorem test_set_line :
    waiting (after (.setLine (askOf14 [0, 2, 0, 70, 0x04, 0xB0, 0x01, 0x90, 0x03, 0x20, 0x01, 0x90, 0x01, 0x90, 0, 60, 0, 0, 0, 120, 0,
      120, 20, 0, 0x9C, 0x40])) node) =
      [[0x21, 0, 1, 0, 2, 0, 63, 0x04, 0xB0, 0x01, 0x90, 0x03, 0x20, 0x01, 0x90, 0x01, 0x90, 0, 60, 0, 1, 0, 120, 0, 120, 15, 0, 0x9C,
        0x40]] := by decide +kernel

/-- R131: a new Z with a record in the lane is BAD_STATE; on an empty lane it is taken. -/
theorem test_set_lane :
    let fields : List Byte := [5, 15, 0, 0, 150, 0, 200, 0x03, 0x84, 0]
    waiting (after (.setLane (askOf14 fields)) before301) = [[0x22, 3, 0]] ∧
    (after (.setLane (askOf14 fields)) node).lane.zoneCount = 5 ∧
    waiting (after (.setLane (askOf14 fields)) node) = [[0x22, 0, 0, 5, 15, 0, 0, 150, 0, 200, 0x03, 0x84, 0]] := by decide +kernel

/-- R168: kind 1 stands in bit 0 of the last byte; a bit above kind 21 is BAD_VALUE. -/
theorem test_set_reports :
    (after (.setReports (askOf14 [1, 0, 0, 1])) node).report.enables = 1 ∧
    waiting (after (.setReports (askOf14 [1, 0x20, 0, 0])) node) = [[0x23, 2, 0]] := by decide +kernel

/-- R169: the flag of kind 21 is cleared, and with extra clears 3 REPORTS_LOST and the error count. -/
theorem test_clear_flags :
    let s := { node with
      report := { node.report with flags := 0x100001, lost := true }, line := { node.line with errors := 9 } }
    waiting (after (.clearFlags (askOf14 [0x10, 0, 0, 3])) s) = [[0x24, 0, 0, 0, 0, 1, 0, 0, 0]] := by decide +kernel

/-- Section 7.12, CLEAR FAULT: zone 1 and zone 3 anonymous, order 90 trimmed, 303 still inbound. -/
theorem test_clear_fault :
    let s := laned filling (passing (tote 302 0 1 1)) filling (holds (tote 120 0 1 1)) true false true true (nodeAt 61000)
    let t := after (.clearFault (askOf14 [2])) { s with
      lane := { s.lane with state := .jammed, inbound := [⟨⟨tote 303 0 1 1, false⟩, 61500⟩] }
      admission := { s.admission with table := [⟨90, 1, 99000⟩] } }
    zone t.lane 1 = ⟨.passing, some anonymousRecord, false, some ⟨0, 1500⟩⟩ ∧ (zone t.lane 2).state = .filling ∧
    zone t.lane 3 = ⟨.held, some anonymousRecord, false, none⟩ ∧ t.lane.inbound.length = 1 ∧ t.admission.table = [] ∧
    waiting t = [noteOf 16 90 0 1 1 61000 0x02, noteOf 14 0 120 1 1 61000 0x00, [0x30, 0, 0, 0, 0]] := by decide +kernel

/-! ### The step -/

/-- The front command is taken with the queue's rest. -/
theorem test_step_takes_front :
    step { node with pending := [.encoderEdge true, .gateExpiry] } = exec (.encoderEdge true) { node with pending := [.gateExpiry] } :=
  rfl

/-! ### States and operands that meet the hypotheses of the statements -/

theorem witness_EmptyQueueTicks :
    (State.reset.pending = [] ∧ Calm State.reset ∧ someTimerOut State.reset = false) ∧
    (let s := { State.reset with belt := { State.reset.belt with timer := 64 } }
     s.pending = [] ∧ Calm s ∧ someTimerOut s = true) ∧
    (let s := { State.reset with resetLow := true }
     s.pending = [] ∧ s.resetLow = true) := by decide +kernel

theorem witness_EdgesAndGatesAreCounted : anyDue (nodeAt 16777215) = false ∧ Calm (nodeAt 50250) := by decide +kernel

theorem witness_EveryCommandCompletes :
    (∀ enc levels, Instr.trailingEdge ≠ .powerOn enc levels) ∧ (∀ level, Instr.trailingEdge ≠ .encoderEdge level) ∧
    Instr.trailingEdge ≠ .gateExpiry := by simp

/-- Notes off, on with 7 frames waiting, and on with 8. -/
theorem witness_RaisedEventSetsFlagAndNote :
    let full := fun n => { node.line with localQueue := List.replicate n ⟨.note, 0, 0, 0, []⟩ }
    (State.reset.report.globalEnable && inSet .crowded State.reset.report.enables) = false ∧
    (node.report.globalEnable && inSet .crowded node.report.enables) = true ∧
    (full 7).localQueue.length < 8 ∧ 8 ≤ (full 8).localQueue.length := by decide +kernel

/-- The queue empty, and a head window that starts one count ahead. -/
theorem witness_UnknownToteIsHandedOn :
    let s := nodeAt 40000
    let t := tracks [expect (tote 1102 0 1 1) 40101] s
    (Calm s ∧ s.eye.state = .clear ∧ readsBlocked s.eye.polarity false = true ∧ isCrowded s.belt.pos s.diverter = false ∧
      s.tracking.queue = [] ∧ s.line.handOff.length < 4) ∧
    (Calm t ∧ t.eye.state = .clear ∧ isCrowded t.belt.pos t.diverter = false ∧ isBefore t.belt.pos 40001 = true) ∧
    (let full := { s with line := { s.line with handOff := List.replicate 4 ⟨.tote, 0, 13, 0, []⟩ } }
     Calm full ∧ ¬ full.line.handOff.length < 4) := by
  decide +kernel

/-- The head of three records: one that is matched at 40,000, one whose window ended at 39,999, and one whose window goes on. -/
def threeRecords (head : Nat) (s : State) : State :=
  tracks [expect (tote 1 5 1 1) head, expect (tote 2 0 1 1) 39899, expect (tote 3 0 1 1) 40000] s

/-- The hypotheses that a matched tote has at 40,000. -/
abbrev MatchedAt40000 (s : State) : Prop :=
  Calm s ∧ s.eye.state = .clear ∧ readsBlocked s.eye.polarity false = true ∧
  (∃ r, s.tracking.queue.head? = some r ∧ atOrAfter s.belt.pos r.windowStart = true ∧ atOrAfter r.windowEnd s.belt.pos = true) ∧
  (∀ n ∈ [expect (tote 2 0 1 1) 39899], signedDist s.belt.pos (n.windowEnd + 1) ≤ 0) ∧
  (∀ n ∈ [expect (tote 3 0 1 1) 40000].head?, 0 < signedDist s.belt.pos (n.windowEnd + 1))

/-- PASS at the first position of the window, REFUSED at the last, late by its lead, and late by a return under way. -/
theorem witness_MatchedToteIsHandedOn :
    let s1 := threeRecords 40100 (nodeAt 40000)
    let s2 := planned .divert (threeRecords 39900 { nodeAt 40000 with lane := { node.lane with state := .jammed } })
    let s3 := planned .divert (threeRecords 40000
      { nodeAt 40000 with belt := { (nodeAt 40000).belt with speed := 4095 } })
    let s4 := planned .divert (threeRecords 40000 (drives .returning (some ⟨.returning, 0, 70, 0⟩) none (some 40001) (some 40376)
      false (nodeAt 40000)))
    (s1.tracking.queue.head? = some (expect (tote 1 5 1 1) 40100) ∧ Calm s1 ∧ isCrowded s1.belt.pos s1.diverter = false ∧
      atOrAfter s1.belt.pos 40000 = true ∧ lookup s1.plan (some 14) 1 = .pass) ∧
    (Calm s2 ∧ isCrowded s2.belt.pos s2.diverter = false ∧ atOrAfter 40000 s2.belt.pos = true ∧
      decision (some (tote 1 5 1 1)) s2 = .refused 1 0) ∧
    (Calm s3 ∧ isCrowded s3.belt.pos s3.diverter = false ∧ decision (some (tote 1 5 1 1)) s3 = .admitted .plain ∧
      verdict s3.belt.pos s3 = .lateLead 5759) ∧
    (Calm s4 ∧ isCrowded s4.belt.pos s4.diverter = false ∧ decision (some (tote 1 5 1 1)) s4 = .admitted .plain ∧
      verdict s4.belt.pos s4 = .lateReturn 225) ∧
    signedDist s1.belt.pos ((expect (tote 2 0 1 1) 39899).windowEnd + 1) ≤ 0 ∧
    0 < signedDist s1.belt.pos ((expect (tote 3 0 1 1) 40000).windowEnd + 1) := by decide +kernel

/-- Arming, joining and a re-throw, and a tote with a call for a reservation. -/
theorem witness_DivertIsCommitted :
    let s1 := planned .divert (threeRecords 40100 (nodeAt 40000))
    let s2 := planned .divert (threeRecords 40100 (drives .throwing none none none none false (nodeAt 40000)))
    let s3 := planned .divert (threeRecords 39900 (drives .returning none none none none false (nodeAt 40000)))
    (∀ s ∈ [s1, s2, s3], Calm s ∧ s.eye.state = .clear ∧ GeometryInRange s.diverter.geometry ∧ AdmissionInRange s.admission ∧
      decision (some (tote 1 5 1 1)) s = .admitted .plain) ∧
    verdict s1.belt.pos s1 = .arm 40375 ∧ verdict s2.belt.pos s2 = .join ∧ verdict s3.belt.pos s3 = .rethrow 40375 ∧
    decision (some (tote 301 77 1 3)) before301 = .admitted (.newReservation 2) := by decide +kernel

theorem witness_DecisionFollowsTable :
    let t := tote 301 77 1 3
    let group := planned .group node
    let kept := { group with admission := { group.admission with table := [⟨77, 1, 90000⟩] } }
    lookup node.plan t.dest t.cls = .pass ∧ lookup group.plan t.dest t.cls = .group ∧
    lookup (planned .divert node).plan t.dest t.cls = .divert ∧
    (drives .fault none none none none false group).diverter.state = .fault ∧ group.diverter.state ≠ .fault ∧
    group.lane.state ≠ .jammed ∧ group.lane.accepted.getLsbD t.cls.val = true ∧
    ({ group with lane := { group.lane with accepted := 1 } }).lane.accepted.getLsbD t.cls.val = false ∧
    (∃ r ∈ kept.admission.table, r.order = t.order) ∧ (¬ ∃ r ∈ group.admission.table, r.order = t.order) ∧ t.order ≠ 0 ∧
    t.refusals < group.admission.refusalLimit := by decide +kernel

theorem witness_EscalatedGroupIsDecidedAsDivert :
    let t := { tote 301 77 1 3 with refusals := 3 }
    let s := planned .group node
    lookup s.plan t.dest t.cls = .group ∧ (∀ r ∈ s.admission.table, r.order ≠ t.order) ∧ s.admission.refusalLimit ≤ t.refusals ∧
    lookup (planned .divert node).plan t.dest t.cls = .divert ∧ decision (some t) s = .admitted .plain := by decide +kernel

theorem witness_CrowdedToteLeavesTheBelt :
    let swept := drives .throwing none none none none false (nodeAt 40000)
    let early := tracks [expect (tote 1 5 1 1) 40200] swept
    let back := drives .returning (some ⟨.returning, 0, 70, 0⟩) none (some 40001) (some 40800)
    let passed := threeRecords 40100 swept
    let refused := planned .divert (threeRecords 39900 { swept with lane := { swept.lane with state := .jammed } })
    let fast := planned .divert (threeRecords 40000 (back false
      { nodeAt 40000 with belt := { (nodeAt 40000).belt with speed := 4095 } }))
    let late := planned .divert (threeRecords 40000 (back false (nodeAt 40000)))
    (∀ s ∈ [swept, early, passed, refused, fast, late], Calm s ∧ s.eye.state = .clear ∧
      readsBlocked s.eye.polarity false = true ∧ isCrowded s.belt.pos s.diverter = true) ∧
    swept.tracking.queue = [] ∧ isBefore early.belt.pos 40100 = true ∧
    (∀ p ∈ [39900, 40000, 40100], atOrAfter 40000 (expect (tote 1 5 1 1) p).windowStart = true ∧
      atOrAfter (expect (tote 1 5 1 1) p).windowEnd 40000 = true) ∧
    signedDist 40000 ((expect (tote 2 0 1 1) 39899).windowEnd + 1) ≤ 0 ∧
    0 < signedDist 40000 ((expect (tote 3 0 1 1) 40000).windowEnd + 1) ∧
    lookup passed.plan (some 14) 1 = .pass ∧ decision (some (tote 1 5 1 1)) refused = .refused 1 0 ∧
    (decision (some (tote 1 5 1 1)) fast = .admitted .plain ∧ verdict fast.belt.pos fast = .lateLead 5759) ∧
    (decision (some (tote 1 5 1 1)) late = .admitted .plain ∧ verdict late.belt.pos late = .lateReturn 225) := by decide +kernel

theorem witness_EyeChangeWithinTote :
    let b := sees .blocked .noLead none none none none (nodeAt 9)
    let c := sees .clearing .noLead none (some 9) (some 17) none (nodeAt 16)
    (Calm b ∧ b.eye.state = .blocked) ∧ (Calm c ∧ c.eye.state = .clearing) ∧ (Calm node ∧ node.eye.state = .clear) ∧
    readsBlocked node.eye.polarity true = false ∧ readsBlocked node.eye.polarity false = true := by decide +kernel

theorem witness_TrailingEdgeIsConfirmed :
    (∀ c ∈ [.matched (tote 1 0 1 1) 10000 .diverted, .anonymous 10000 .crowded, .noLead],
      let s := sees .clearing c none (some 10842) (some 10850) none (nodeAt 10850)
      s.resetLow = false ∧ s.eye.state = .clearing ∧ s.eye.clearing = some 10842 ∧ s.eye.debounceEnd = some s.belt.pos ∧
      s.eye.context = c) ∧
    node.eye.state ≠ .clearing ∧
    (sees .clearing .noLead none (some 10842) (some 10850) none (nodeAt 10849)).eye.debounceEnd ≠ some (nodeAt 10849).belt.pos := by
  decide +kernel

/-- In HOLDING, a release equal to P and one that lies a count ahead. -/
theorem witness_TrailingPositionSetsRelease :
    node.diverter.state = .rest ∧ (drives .armed none (some 9) none none false node).diverter.state = .armed ∧
    (drives .holding none none none none false (nodeAt 924)).diverter.state = .holding ∧
    signedDist (nodeAt 924).belt.pos (plus (plus 294 600) 30) ≤ 0 ∧
    0 < signedDist (nodeAt 923).belt.pos (plus (plus 294 600) 30) := by decide +kernel

theorem witness_BlockedEyeIsReportedOnce :
    let both := sees .clearing .noLead none (some 21192) (some 21200) (some ⟨21200, 1200⟩) (nodeAt 21200)
    (both.resetLow = false ∧ both.eye.state = .clearing ∧ both.eye.debounceEnd = some both.belt.pos ∧
      both.eye.blockedDeadline = some ⟨both.belt.pos, 1200⟩) ∧
    (∀ c ∈ [.matched (tote 1 0 1 1) 20000 .pass, .anonymous 20000 .passUnknown, .noLead],
      let s := sees .blocked c none none none (some ⟨21200, 1200⟩) (nodeAt 21200)
      s.resetLow = false ∧ s.eye.state = .blocked ∧ s.eye.blockedDeadline = some ⟨s.belt.pos, 1200⟩ ∧ s.eye.context = c) := by
  decide +kernel

/-- Payloads of 8 and 9 bytes, queues of 15 and 16 records, a link that is down and a receiver that waits. -/
theorem witness_ToteFrameIsTracked :
    let queued := fun n => tracks (List.replicate n (expect (tote 1 0 1 1) 40000)) node
    Listening (queued 15) ∧ (queued 15).tracking.queue.length < 16 ∧ Listening (queued 16) ∧
    16 ≤ (queued 16).tracking.queue.length ∧ (List.replicate 8 (0 : Byte)).length ≠ 9 ∧ (List.replicate 9 (0 : Byte)).length = 9 ∧
    Calm State.reset ∧ State.reset.line.receiverReady = false := by decide +kernel

theorem witness_NormalisedToteIsInRange : ([0, 1, 0, 2, 64, 4, 0, 9, 16] : List Byte).length = 9 := by decide

theorem witness_HeadExpiryRemovesARun :
    let r := fun k => expect (tote k 0 1 1) 72000
    let s := tracks [r 1, r 2, expect (tote 3 0 1 1) 72400] (nodeAt 72101)
    (s.resetLow = false ∧ s.tracking.headDeadline = some s.belt.pos ∧
      s.tracking.queue = r 1 :: ([r 2] ++ [expect (tote 3 0 1 1) 72400]) ∧
      (∀ n ∈ [r 2], signedDist s.belt.pos (n.windowEnd + 1) ≤ 0) ∧
      (∀ n ∈ [expect (tote 3 0 1 1) 72400].head?, 0 < signedDist s.belt.pos (n.windowEnd + 1))) ∧
    (nodeAt 72101).tracking.headDeadline ≠ some (nodeAt 72101).belt.pos := by decide +kernel

/-- Asks for this node with the field counts that the statements name. -/
theorem witness_PlanIsLoadedAndRead :
    Listening node ∧ Mine 14 node ∧ (askOf14 [10, 17, 1, 2, 0]).fields = [10, 17, 1, 2, 0] ∧
    (askOf14 [2]).fields.length = 1 ∧ (askOf14 (List.replicate 28 2)).fields.length = 28 ∧ (askOf14 [3, 28]).fields = [3, 28] := by
  decide +kernel

theorem witness_WalkVisitsWindowOnce :
    node.plan.d0 ≤ node.plan.d1 ∧ node.plan.c0 ≤ node.plan.c1 ∧ windowed.plan.d0 ≤ windowed.plan.d1 ∧
    windowed.plan.c0 ≤ windowed.plan.c1 := by decide +kernel

theorem witness_LoadFollowsTheWalk :
    windowed.plan.d0 ≤ windowed.plan.d1 ∧ windowed.plan.c0 ≤ windowed.plan.c1 ∧ List.replicate 10 (2 : Byte) ≠ [] := by
  decide +kernel

theorem witness_LoadsAndReadsJoin : windowed.plan.d0 ≤ windowed.plan.d1 ∧ windowed.plan.c0 ≤ windowed.plan.c1 := by decide +kernel

theorem witness_SwapAndCopyPlan : Listening windowed ∧ Mine (askOf14 []).target windowed ∧ (askOf14 []).fields = [] := by
  decide +kernel

theorem witness_ActiveBankIsNeverLoaded :
    (∃ t, exec (.writeEntries (askOf14 [2])) windowed = .next t) ∧
    (∀ enc levels, Instr.writeEntries (askOf14 [2]) ≠ .powerOn enc levels) ∧
    (∃ t, exec (askCommand .readStatus (askOf14 [])) windowed = .next t) ∧
    AskCode.readStatus ∉ [AskCode.setWindow, .writeEntries, .continueEntries, .swapPlan, .copyPlan] := by
  simp [exec, askCommand, execWriteEntries, execReadStatus]

theorem witness_ExpiriesLeaveTheirLists :
    let s := { nodeAt 51500 with lane := { node.lane with inbound := [⟨⟨tote 415 0 1 1, true⟩, 51500⟩] } }
    s.resetLow = false ∧ (∃ r ∈ s.lane.inbound, r.deadline = s.belt.pos) ∧ (∀ r ∈ node.lane.inbound, r.deadline ≠ node.belt.pos) := by
  decide +kernel

theorem witness_TrimTakesTheNewest :
    ∀ r ∈ ({ node with admission := { node.admission with table := [⟨40, 2, 9⟩, ⟨41, 1, 9⟩] } }).admission.table, 1 ≤ r.zones := by
  decide +kernel

/-- The ends of the range of Z, and a lane whose rescan leaves one inbound record too many. -/
theorem witness_RescanReadsTheEyes :
    (∀ z ∈ [2, 8], let s := { node with lane := { node.lane with zoneCount := z } }
      2 ≤ s.lane.zoneCount ∧ s.lane.zoneCount ≤ 8) ∧
    (let s := laned emptyZone emptyZone emptyZone emptyZone true true true true node
     let s := { s with lane := { s.lane with inbound := [⟨⟨tote 301 0 1 1, false⟩, 51500⟩] } }
     2 ≤ s.lane.zoneCount ∧ s.lane.zoneCount ≤ 8 ∧ (trim s).admission.table = [] ∧
       s.lane.zoneCount < ([1, 2, 3, 4].filter fun k => zoneBlocked s k).length + s.lane.inbound.length) := by decide +kernel

/-- The greatest throw and return times, S = 4,095 and G = 32 ms. -/
theorem witness_LeadsAreLeast :
    let s := { node with
      belt := { node.belt with speed := 4095, gate := .ms32 }
      diverter := { node.diverter with geometry := { powerOnGeometry with throwTime := 255, returnTime := 255 } } }
    GeometryInRange s.diverter.geometry ∧ BeltInRange s.belt ∧ throwLead s = 32633 := by decide +kernel

theorem witness_PaddleAnswersByState :
    let r := fun f c => (drives .returning none f none c false (nodeAt 40000))
    node.diverter.state = .rest ∧ (drives .armed none (some 9) none none false node).diverter.state = .armed ∧
    ((r (some 9) none).diverter.state = .returning ∧ (r (some 9) none).diverter.fire ≠ none) ∧
    ((r none none).diverter.fire = none ∧ (r none none).diverter.clear = none) ∧ (r none (some 40375)).diverter.clear = some 40375 ∧
    ¬ (node.diverter.geometry.eyeToPaddle < throwLead (nodeAt 40000)) ∧
    ({ powerOnGeometry with eyeToPaddle := 224 }).eyeToPaddle < throwLead (nodeAt 40000) := by decide +kernel

/-- Releases at P and one count ahead of it. -/
theorem witness_ThrowRunsItsCourse :
    let a := drives .armed none (some 251) none none false (nodeAt 251)
    let t := fun release => drives .throwing (some ⟨.throwing, 90, 90, 0⟩) none release none false (nodeAt 483)
    (a.resetLow = false ∧ a.diverter.state = .armed ∧ a.diverter.fire = some a.belt.pos) ∧ node.diverter.state ≠ .armed ∧
    (Calm (t none) ∧ (t none).diverter.phase = some ⟨.throwing, 90, 90, 0⟩ ∧ (t none).diverter.release = none) ∧
    (Calm (t (some 484)) ∧ (t (some 484)).diverter.release = some 484 ∧ 0 < signedDist (t (some 484)).belt.pos 484) ∧
    (Calm (t (some 483)) ∧ (t (some 483)).diverter.release = some 483 ∧ signedDist (t (some 483)).belt.pos 483 ≤ 0) := by
  decide +kernel

theorem witness_ReturnRunsItsCourse :
    let h := drives .holding none none (some 924) none false (nodeAt 924)
    let r := drives .returning (some ⟨.returning, 70, 70, 0⟩) (some 11380) none none true (nodeAt 11380)
    let w := drives .returning (some ⟨.homeWait, 50, 50, 70⟩) none none none false (nodeAt 9)
    (h.resetLow = false ∧ h.diverter.state = .holding ∧ h.diverter.release = some h.belt.pos) ∧ node.diverter.state ≠ .holding ∧
    (Calm r ∧ r.diverter.phase = some ⟨.returning, 70, 70, 0⟩ ∧ r.diverter.geometry.grace ≠ 0) ∧
    ({ powerOnGeometry with grace := 0 }).grace = 0 ∧ (Calm w ∧ w.diverter.phase = some ⟨.homeWait, 50, 50, 70⟩) := by decide +kernel

theorem witness_OutputsFollowTheState :
    let d := fun state duty => { node with diverter := { node.diverter with state := state, duty := duty } }
    ({ node with resetLow := true }).resetLow = true ∧ node.resetLow = false ∧ (d .throwing 6).diverter.state = .throwing ∧
    ((d .holding 15).diverter.state = .holding ∧ (d .holding 15).diverter.duty < 16) ∧ (d .holding 16).diverter.duty = 16 ∧
    (d .returning 6).diverter.state = .returning ∧ node.diverter.state = .rest := by decide +kernel

/-- A full lane but for zone 1, FILLING with an inbound record or EMPTY with none, and the entry of section 7.11 into an empty lane.
-/
theorem witness_EntryTakesTheOldest :
    let h := holds (tote 1 0 1 1)
    let s := laned filling h h h false true true true (nodeAt 51300)
    let t := { s with lane := { s.lane with inbound := [⟨⟨tote 301 0 1 1, false⟩, 51500⟩] } }
    let u := laned emptyZone h h h false true true true (nodeAt 51300)
    let o := laned filling emptyZone emptyZone h false false false true (nodeAt 51300)
    let v := { o with lane := { o.lane with inbound := [⟨⟨tote 301 0 1 1, false⟩, 51500⟩] } }
    (∀ w ∈ [t, u, v], Calm w ∧ LaneRests w ∧ 2 ≤ w.lane.zoneCount ∧ w.lane.state ≠ .jammed ∧ w.pins.zeye.get 0 ≠ false ∧
      readsBlocked w.lane.polarity false = true ∧ ((zone w.lane 1).state = .empty ∨ (zone w.lane 1).state = .filling)) ∧
    ((zone t.lane 2).state ≠ .empty ∧ (zone u.lane 2).state ≠ .empty) ∧
    ((zone v.lane 2).state = .empty ∧ zoneBlocked v 2 = false) := by decide +kernel

/-- A double entry, unexpected blocks at zones 2 and 4, a transfer from zone 3, a discharge, and a lane that is JAMMED. -/
theorem witness_JamsStopTheLane :
    let h := holds (tote 1 0 1 1)
    let d := laned h h h h true true true true node
    let e := laned emptyZone emptyZone emptyZone emptyZone false false false false node
    let t := laned emptyZone emptyZone (passing (tote 1 0 1 1)) filling false false true false node
    let z := { d with lane := { d.lane with discharge := some ⟨0, 2000⟩ } }
    let m := { d with lane := { d.lane with lateTimeout := true } }
    let j := { d with lane := { d.lane with state := .jammed } }
    (∀ v ∈ [d, e, t, z, m], Calm v ∧ LaneRests v ∧ v.lane.state ≠ .jammed ∧ 2 ≤ v.lane.zoneCount) ∧
    (zone d.lane 1).state = .held ∧ readsBlocked d.lane.polarity false = true ∧
    (∀ i ∈ ([1, 3] : List (Fin 8)), 1 ≤ i.val ∧ i.val < e.lane.zoneCount ∧ e.pins.zeye.get i ≠ false ∧
      (zone e.lane (i.val + 1)).state = .empty) ∧
    (zone t.lane 3).timer.isSome = true ∧ z.lane.discharge.isSome = true ∧
    (d.lane.discharge = none ∧ d.lane.lateTimeout = false) ∧ m.lane.lateTimeout = true ∧ (Calm j ∧ LaneRests j ∧ j.lane.state = .jammed) := by
  decide +kernel

/-- Transfers from zone 1 and from zone 3, the last below Z, one that moves at once, the two parts of one, an arrival at zone Z, and
changes that no transfer expects. -/
theorem witness_TransferHasTwoParts :
    let h := holds (tote 1 0 1 1)
    let s1 := laned h emptyZone h h true false true true node
    let s3 := laned h h h emptyZone true true true false node
    let atOnce := laned h h h emptyZone true true true true node
    let p := laned emptyZone (passing (tote 1 0 1 1)) filling emptyZone false true false false node
    let z := laned emptyZone emptyZone (passing (tote 1 0 1 1)) filling false false true false node
    (∀ x ∈ [(s1, 1), (s3, 3), (atOnce, 3)], 1 ≤ x.2 ∧ x.2 < x.1.lane.zoneCount ∧ x.1.lane.state ≠ .jammed ∧
      (zone x.1.lane x.2).state = .held ∧ (zone x.1.lane x.2).record = some ⟨tote 1 0 1 1, false⟩ ∧
      (zone x.1.lane (x.2 + 1)).state = .empty ∧ (zone x.1.lane 1).state = .held ∧ x.1.counter.release ≠ .waiting ∧
      ∀ j ∈ [2, 3], x.2 < j → ¬ ((zone x.1.lane j).state = .held ∧ (zone x.1.lane (j + 1)).state = .empty)) ∧
    (zoneBlocked s1 2 = false ∧ zoneBlocked s3 4 = false ∧ zoneBlocked atOnce 4 = true) ∧
    (Calm p ∧ LaneRests p ∧ p.lane.state ≠ .jammed ∧ (2 : Fin 8).val + 1 < p.lane.zoneCount ∧ (zone p.lane 2).state = .passing ∧
      readsBlocked p.lane.polarity true = false ∧ readsBlocked p.lane.polarity false = true ∧ p.pins.zeye.get 2 ≠ false ∧
      (zone p.lane 3).state = .filling ∧ (zone p.lane 2).record = some ⟨tote 1 0 1 1, false⟩ ∧ (zone p.lane 1).state = .empty) ∧
    (Calm z ∧ z.lane.state ≠ .jammed ∧ (3 : Fin 8).val + 1 = z.lane.zoneCount ∧ z.pins.zeye.get 3 ≠ false ∧
      (zone z.lane 4).state = .filling ∧ (zone z.lane 3).record = some ⟨tote 1 0 1 1, false⟩ ∧ z.counter.release ≠ .waiting) ∧
    (∀ level ∈ [true, false], Calm orderLane ∧ LaneRests orderLane ∧ (1 : Fin 8).val < orderLane.lane.zoneCount ∧
      (zone orderLane.lane 2).state = .held ∧ (readsBlocked orderLane.lane.polarity level = !level)) := by decide +kernel

/-- Zone 1 EMPTY with an inbound record, its eye clear, blocked, and blocked in a JAMMED lane, and FILLING with an empty list. -/
theorem witness_TransferHasTwoParts_inbound :
    let comes := fun (s : State) => { s with lane := { s.lane with inbound := [⟨⟨tote 301 0 1 1, false⟩, 51500⟩] } }
    let clear := comes node
    let blocked := comes (laned emptyZone emptyZone emptyZone emptyZone true false false false node)
    let jammed := { blocked with lane := { blocked.lane with state := .jammed } }
    let fills := laned filling emptyZone emptyZone emptyZone false false false false node
    (∀ s ∈ [clear, blocked, jammed], (zone s.lane 1).state = .empty ∧
      s.lane.inbound = ⟨⟨tote 301 0 1 1, false⟩, 51500⟩ :: []) ∧
    zoneBlocked clear 1 = false ∧ zoneBlocked blocked 1 = true ∧ blocked.lane.state ≠ .jammed ∧ jammed.lane.state = .jammed ∧
    (zone fills.lane 1).state = .filling ∧ fills.lane.inbound = [] := by decide +kernel

/-- A lane of 8 zones and 4 inbound records with something to do of itself, and one at rest. -/
theorem witness_TransferHasTwoParts_settles :
    let r : InboundRecord := ⟨⟨tote 301 0 1 1, false⟩, 51500⟩
    let s := { node with lane := { node.lane with zoneCount := 8, inbound := [r, r, r, r] } }
    s.lane.zoneCount ≤ 8 ∧ s.lane.inbound.length ≤ 4 ∧ (laneRule s).isSome = true ∧ laneRule node = none ∧ LaneRests node := by
  decide +kernel

theorem witness_EveryStepLeavesTheLaneAtRest :
    (LaneAgrees State.reset.lane ∧ CounterAgrees State.reset ∧ State.reset.lane.inbound.length ≤ 4 ∧ LaneRests State.reset) ∧
    ∃ t, step State.reset = .next t :=
  ⟨by decide +kernel, by simp [step, State.reset]⟩

theorem witness_ReadyShowsTheFrontOrder :
    let dark := { orderLane with counter := { orderLane.counter with readyLit := false } }
    frontRecord orderLane.lane = some ⟨tote 301 77 1 3, false⟩ ∧ orderLane.lane.state = .running ∧
    (zone orderLane.lane 4).state = .held ∧ frontComplete orderLane.lane = true ∧ orderLane.counter.readyLit = true ∧
    frontRecord node.lane = none ∧
    dark.counter.readyLit = false ∧ ({ orderLane.lane with state := .paused }).state ≠ .running := by decide +kernel

theorem witness_ButtonIsDebounced :
    ∀ b ∈ [ButtonState.armed, .timing, .spent], Calm { node with counter := { node.counter with button := b } } := by decide +kernel

theorem witness_ReleaseIsRequested :
    let pressed := { orderLane with counter := { orderLane.counter with button := .timing, buttonTimer := some 20 } }
    let lifted := { pressed with pins := { pressed.pins with zeye := pressed.pins.zeye.set 3 true } }
    (∀ s ∈ [pressed, lifted], Calm s ∧ LaneRests s ∧ 2 ≤ s.lane.zoneCount ∧ s.lane.zoneCount ≤ 8 ∧
      s.counter.button = .timing ∧ s.counter.release = .idle ∧ s.counter.pressWaits = false ∧
      s.lane.state = .running ∧ (zone s.lane 4).state = .held ∧ frontComplete s.lane = true) ∧
    zoneBlocked pressed pressed.lane.zoneCount = true ∧ zoneBlocked lifted lifted.lane.zoneCount = false ∧
    (zone lifted.lane 4).record = some ⟨tote 301 77 1 3, false⟩ ∧
    (Calm node ∧ LaneRests node ∧ (zone node.lane 4).state ≠ .held ∧ node.counter.button ≠ .timing) ∧
    (∀ s ∈ [orderLane, lifted], Listening s ∧ Mine (askOf14 []).target s ∧ (askOf14 []).fields = []) ∧
    ({ orderLane.counter with release := .waiting }).release ≠ .idle := by decide +kernel

/-- The lane of section 8.9 at its first completion, and at the arrival of 77/2 in zone 4. -/
theorem witness_ReleaseRunsItsCourse :
    let c := laned (holds (tote 401 80 1 3)) (holds (tote 303 77 3 3)) (holds (tote 302 77 2 3))
      ⟨.passing, some ⟨tote 301 77 1 3, false⟩, false, none⟩ true true true true (nodeAt 60000)
    let c := { c with counter := { c.counter with release := .discharging, group := some 77, pressWaits := true } }
    let w := laned emptyZone emptyZone (passing (tote 302 77 2 3)) filling false false true false (nodeAt 60000)
    let w := { w with counter := { w.counter with release := .waiting, group := some 77 } }
    (Calm c ∧ 2 ≤ c.lane.zoneCount ∧ (3 : Fin 8).val + 1 = c.lane.zoneCount ∧ c.lane.state = .running ∧
      readsBlocked c.lane.polarity true = false ∧ (zone c.lane 4).state = .passing ∧
      (zone c.lane 4).record = some ⟨tote 301 77 1 3, false⟩ ∧
      frontRecord (putZone 4 emptyZone c.lane) = some ⟨tote 302 77 2 3, false⟩ ∧ multiToteOf 77 ⟨tote 302 77 2 3, false⟩ = true ∧
      (∀ t ∈ ([⟨1999, 2000⟩, ⟨2000, 2000⟩] : List Timer), Calm { c with lane := { c.lane with discharge := some t } })) ∧
    (Calm w ∧ w.lane.state = .running ∧ readsBlocked w.lane.polarity false = true ∧ w.pins.zeye.get 3 ≠ false ∧
      (zone w.lane 4).state = .filling ∧ (zone w.lane 3).record = some ⟨tote 302 77 2 3, false⟩ ∧ w.counter.release = .waiting ∧
      w.counter.group = some 77 ∧ multiToteOf 77 ⟨tote 302 77 2 3, false⟩ = true ∧ multiToteOf 77 ⟨tote 1 0 1 1, false⟩ = false) := by
  decide +kernel

/-- NUMBER values at the ends of their range, frames of each kind that is forwarded, and levels that are no frame. -/
theorem witness_FramesAreForwarded :
    Listening node ∧ (∀ v ∈ ([1, 62, 63] : List Byte), 1 ≤ v.toNat ∧ v.toNat ≤ 63) ∧
    (∀ v ∈ ([0, 64] : List Byte), v.toNat = 0 ∨ 63 < v.toNat) ∧ (List.replicate 32 (0 : Byte)).length ≤ 32 ∧
    ((13 : Byte) ≠ 63 ∧ ¬ Mine 13 node) ∧
    (false ∈ lineLevels [0xA5, 1, 2] ∧ receiveCheck (gather ⟨lineLevels [0xA5, 1, 2]⟩) = none) ∧
    false ∉ List.replicate 16 true := by decide +kernel

/-- 41 bytes, 40 with the bits of a byte whose stop bit is low, and the ends of the check register. -/
theorem witness_ReceiveChecksTakeFrames :
    ((List.replicate 41 (0x5A : Byte)).length = 41 ∧ (List.replicate 40 (0x5A : Byte)).length ≤ 40 ∧
      (List.replicate 8 true).length = 8) ∧
    (∀ i ∈ [0, 15], i < 16) := by decide +kernel

theorem witness_ArbiterChoosesByRank :
    let f : Frame := ⟨.note, 0, 9, 0, [1]⟩
    let l := fun h w q c => { node.line with handOff := h, forward := w, localQueue := q, credit := c }
    Calm node ∧ (l [f] [] [] 0).handOff = f :: [] ∧ (l [] [f] [] 0).forward = f :: [] ∧
    ((l [] [f] [f] 2).credit < 3 ∧ (l [] [f] [f] 2).localQueue ≠ []) ∧ (3 ≤ (l [] [f] [f] 3).credit) ∧
    (l [] [] [f] 0).localQueue = f :: [] ∧ (l [] [] [] 0).localQueue = [] := by decide +kernel

theorem witness_LinkFollowsLos :
    (Calm node ∧ node.line.link = .up) ∧ ({ node.line with link := .down }).link = .down := by decide +kernel

theorem witness_AsksFindTheirNode :
    Listening node ∧ Mine 14 node ∧ askOfByte 0x40 = none ∧ AskCode.lengthOk .readStatus 1 = false ∧
    (∀ target ∈ ([13, 63] : List Byte), ¬ Mine target node) ∧ (13 : Byte) ≠ 63 ∧
    (∀ payload ∈ ([[], [0x40]] : List (List Byte)), payload.length ≤ 32 ∧ ∀ b ∈ payload.head?, askOfByte b = none) ∧
    AskCode.lengthOk .swapPlan 0 = true ∧ (List.replicate 31 (0 : Byte)).length < 32 := by
  decide +kernel

theorem witness_ReadsAnswerTheirRecords :
    Listening before301 ∧ Mine (askOf14 [1, 0]).target before301 ∧ (askOf14 []).fields = [] ∧ (askOf14 [0, 1]).fields = [0, 1] ∧
    before301.line.localQueue.length < 8 ∧
    8 ≤ ({ node.line with localQueue := List.replicate 8 ⟨.note, 0, 14, 0, []⟩ }).localQueue.length := by
  decide +kernel

theorem witness_GeometryIsReplaced :
    Listening node ∧ Mine 14 node ∧
    (askOf14 [1, 0x0F, 0xFF, 1, 0, 0, 1, 0, 0, 16]).fields = [1, 0x0F, 0xFF, 1, 0, 0, 1, 0, 0, 16] := by decide +kernel

theorem witness_LineSettingsAreApplied :
    Listening node ∧ Mine 14 node ∧ (askOf14 (List.replicate 26 0)).fields.length = 26 ∧ EyeAgrees node.eye := by decide +kernel

/-- An empty lane, and a lane that is JAMMED; an empty class set is no right structure. -/
theorem witness_LaneSettingsAreApplied :
    (Listening node ∧ Mine 14 node ∧ LaneRests node ∧ LampTrue node ∧ LaneAgrees node.lane ∧ RoomKept node ∧ held node.lane = 0 ∧
      node.lane.inbound = []) ∧
    (2 ≤ (2 : Byte).toNat ∧ (8 : Byte).toNat ≤ 8 ∧ 1 ≤ (1 : Byte).toNat ∧ (15 : Byte).toNat ≤ 15 ∧ ¬ 1 ≤ (0 : Byte).toNat) ∧
    (Listening before301 ∧ LaneRests before301 ∧ LampTrue before301 ∧ LaneAgrees before301.lane ∧ RoomKept before301 ∧
      held before301.lane ≠ 0) := by decide +kernel

theorem witness_ReportsAndFlagsAreSet :
    Listening node ∧ Mine 14 node ∧ (askOf14 [0x1F, 0xFF, 0xFF, 3]).fields = [0x1F, 0xFF, 0xFF, 3] ∧ 0x1FFFFF < 2 ^ 21 ∧
    2 ^ 21 ≤ 0x200000 := by decide +kernel

theorem witness_PauseResumeAndClearFault :
    ∀ state ∈ [LaneState.running, .paused, .jammed], ∀ fields ∈ ([[], [0], [1], [3], [4]] : List (List Byte)),
      let s := { node with lane := { node.lane with state := state } }
      Listening s ∧ Mine (askOf14 fields).target s ∧ s.lane.state = state := by decide +kernel

theorem witness_NodeResetKeepsAndLoses :
    (∀ k ∈ [1, 2, 3, 4], zoneBlocked node k = false) ∧ (∀ k ∈ [1, 2, 3, 4], zoneBlocked orderLane k = true) ∧
    (∀ s ∈ [node, orderLane], Listening s ∧ Mine 14 s ∧
      (let r := { s with resetLow := true }
       r.resetLow = true ∧ r.line.link = .up ∧ r.pins.los = false)) ∧
    ({ node.line with link := .down }).link ≠ .up := by decide +kernel

theorem witness_ResetPinHoldsTheNode :
    Calm node ∧ ({ node with resetLow := true }).resetLow = true ∧
    (∃ t, exec (.encoderEdge true) { node with resetLow := true } = .next t) ∧
    (∀ enc levels, Instr.encoderEdge true ≠ .powerOn enc levels) ∧ Instr.encoderEdge true ≠ .resetPinRelease :=
  ⟨by decide +kernel, rfl, by simp [exec, execEncoderEdge], by simp, by simp⟩

theorem witness_PowerOnLoadsEverySetting : ∀ k : Fin 4, restLevels.zeye.get ⟨k.val, by omega⟩ = true := by decide +kernel

theorem witness_QueuesStayBounded : QueuesBounded State.reset ∧ ∃ t, step State.reset = .next t :=
  ⟨by decide +kernel, by simp [step, State.reset]⟩

theorem witness_RoomIsKept :
    (ReservationsRight before301.admission ∧ RoomKept before301 ∧ TotesInRange before301 ∧ 2 ≤ before301.lane.zoneCount ∧
      before301.lane.zoneCount ≤ 8) ∧
    ∃ t, step { before301 with pending := [.eyeChange false] } = .next t :=
  ⟨by decide +kernel, by simp [step, exec, execEyeChange]⟩

theorem witness_EverythingStaysInRange :
    (InRange before301 ∧ TotesInRange before301) ∧ ∃ t, step { before301 with pending := [.eyeChange false] } = .next t :=
  ⟨by decide +kernel, by simp [step, exec, execEyeChange]⟩

theorem witness_BlocksAgreeWithThemselves :
    (EyeAgrees before301.eye ∧ HeadWatched before301.tracking ∧ DriveAgrees before301.diverter ∧ PlanOrdered before301.plan) ∧
    ∃ t, step { before301 with pending := [.eyeChange false] } = .next t :=
  ⟨by decide +kernel, by simp [step, exec, execEyeChange]⟩

theorem witness_LaneAgreesWithCounter :
    (LaneAgrees before301.lane ∧ CounterAgrees before301 ∧ LampTrue before301) ∧
    ∃ t, step { before301 with pending := [.eyeChange false] } = .next t :=
  ⟨by decide +kernel, by simp [step, exec, execEyeChange]⟩

end Sys2Proof.Tests
end

section
/-! SUPPORT. The swap and the copy of the Route Plan (R63, R65): how an ask for the node alone reaches the plan, what the two plan
operations make of it, and the byte of the status record that names the active bank. -/

namespace Sys2Proof.Machine

/-! ### Asks for the node alone -/

/-- Every command of an ask is the arrival of its ASK frame at a settled node (R148). -/
theorem exec_askCommand (c : AskCode) (a : Ask) (s : State) :
    exec (askCommand c a) s = .next (received (ofKind .ask (askFrame c a)) (settle s)) := by
  cases c <;> rfl

/-- A listening node carries out and answers an ask of a right length that is addressed to it; NODE RESET answers first (R160). -/
theorem exec_askCommand_mine {c : AskCode} {a : Ask} {s : State} (listening : Listening s) (mine : Mine a.target s)
    (short : a.fields.length < 32) (length : c.lengthOk a.fields.length = true) (notReset : c ≠ .nodeReset) :
    exec (askCommand c a) s =
      .next (queueAnswer (answerFrame a.tag c.code (askEffect c a.fields s).2 (askEffect c a.fields s).1)
        (askEffect c a.fields s).1) := by
  rw [exec_askCommand, received_of_listening listening, frameArrives_mine mine a.source a.tag c short,
    answeredAsk_of_length length notReset]

/-- The answer that claims write out for result OK is the queued ANSWER frame of an OK reply (Table 9-7). -/
theorem answered_ok (a : Ask) (code : Nat) (clamped : Bool) (fields : List Nat) (t : State) :
    answered a code 0 clamped fields t =
      queueAnswer (answerFrame a.tag (BitVec.ofNat 8 code) (okay clamped (fields.map (BitVec.ofNat 8))) t) t := by
  cases clamped <;> rfl

/-- An ask for the node alone whose effect is result OK: the next state is the effect's, with the answer queued (R160). -/
theorem exec_askCommand_ok {c : AskCode} {a : Ask} {s t : State} {code : Nat} {clamped : Bool} {fields : List Nat}
    (listening : Listening s) (mine : Mine a.target s) (short : a.fields.length < 32)
    (length : c.lengthOk a.fields.length = true) (notReset : c ≠ .nodeReset) (named : c.code = BitVec.ofNat 8 code)
    (effect : askEffect c a.fields s = (t, okay clamped (fields.map (BitVec.ofNat 8)))) :
    exec (askCommand c a) s = .next (answered a code 0 clamped fields t) := by
  rw [exec_askCommand_mine listening mine short length notReset, effect, answered_ok, named]

/-! ### Roles of the banks -/

@[simp] theorem otherBank_otherBank (k : Bank) : otherBank (otherBank k) = k := by cases k <;> rfl

/-- A copy into the other bank leaves both banks with the cells of the bank copied (R65). -/
theorem putBank_otherBank_bankCells (p : RoutePlan) (k : Bank) :
    putBank p (otherBank k) (bankCells p k) = { p with bankA := bankCells p k, bankB := bankCells p k } := by
  cases k <;> rfl

/-- Of a plan with equal banks every role reads the same cells. -/
theorem bankCells_of_equal {p : RoutePlan} {cells : BankCells} (a : p.bankA = cells) (b : p.bankB = cells) (k : Bank) :
    bankCells p k = cells := by
  cases k
  · exact a
  · exact b

/-- A lookup reads the cells of the active bank alone (R51). -/
theorem lookup_congr {p q : RoutePlan} (h : bankCells p p.active = bankCells q q.active) (dest : Option (Fin 64)) (cls : Fin 4) :
    lookup p dest cls = lookup q dest cls := by
  cases dest with
  | none => rfl
  | some d => simp [lookup, h]

/-! ### The two plan operations -/

/-- COPY PLAN: equal banks, the write cursor at the window start, and the bank written as the answer (R65). -/
theorem planCopy_eq (p : RoutePlan) :
    planCopy p =
      ({ p with
          bankA := bankCells p p.active, bankB := bankCells p p.active, write := ⟨⟨p.d0, p.c0⟩, false⟩ },
       okay false ([(otherBank p.active).code].map (BitVec.ofNat 8))) := by
  simp only [planCopy, standby, putBank_otherBank_bankCells]
  rfl

/-- SWAP PLAN: the standby bank active, the write cursor at the window start, and the bank now active as the answer (R63). -/
theorem planSwap_eq (p : RoutePlan) :
    planSwap p =
      ({ p with active := otherBank p.active, write := ⟨⟨p.d0, p.c0⟩, false⟩ },
       okay false ([(otherBank p.active).code].map (BitVec.ofNat 8))) := rfl

/-- Byte 14 of the status record names the active bank (R161). -/
theorem statusRecord_activeBank (s : State) : (statusRecord s)[14]? = some (BitVec.ofNat 8 s.plan.active.code) := by
  simp [statusRecord, bytes1, bytes2, bytes3]

/-- Settles O23: each ask is its plan operation at a listening node; the lookups follow from the cells of the active bank. -/
theorem swapAndCopyPlan : Obligations.SwapAndCopyPlan := by
  intro a s listening mine empty other start copied swapped
  have short : a.fields.length < 32 := by simp [empty]
  have right : (a.fields.length == 0) = true := by simp [empty]
  refine ⟨?copy, ?copyLookup, ?swap, ?swapLookup, ?back, ?status⟩
  case copy =>
    exact exec_askCommand_ok (c := .copyPlan) listening mine short right nofun rfl
      (by rw [askEffect, onPlan, planCopy_eq])
  case copyLookup => exact lookup_congr (bankCells_of_equal rfl rfl _)
  case swap =>
    exact exec_askCommand_ok (c := .swapPlan) listening mine short right nofun rfl
      (by rw [askEffect, onPlan, planSwap_eq])
  case swapLookup =>
    intro dest cls
    have cells : bankCells swapped other = bankCells s.plan other := by cases other <;> rfl
    exact congrArg (cellOf · ⟨dest, cls⟩) cells
  case back => exact otherBank_otherBank _
  case status => exact statusRecord_activeBank _

end Sys2Proof.Machine
end

section
/-! SUPPORT. The decision of an escalated GROUP tote (R74): the decision by the action of the plan, the tests that read no plan, and the
one form of admission that step 9 of Table 5-3 gives. -/

namespace Sys2Proof.Machine

/-! ### The decision by the action -/

/-- A tote whose action is DIVERT is declined at steps 3 to 5 or decided at step 9 (R72, R76). -/
theorem decision_of_divert {t : ToteFields} {s : State} (h : lookup s.plan t.dest t.cls = .divert) :
    decision (some t) s = (declined t s).getD (decideDivert s) := by
  simp only [decision, h]

/-- A tote whose action is GROUP is declined at steps 3 to 5 or decided at steps 6 to 8 (R72 to R75). -/
theorem decision_of_group {t : ToteFields} {s : State} (h : lookup s.plan t.dest t.cls = .group) :
    decision (some t) s = (declined t s).getD (decideGroup t s) := by
  simp only [decision, h]

theorem hasReservation_eq_false {order : Ident} {a : Admission} :
    hasReservation order a = false ↔ ∀ r ∈ a.table, r.order ≠ order := by
  simp [hasReservation]

/-- An escalated GROUP tote, without an entry and of order 0 or at the refusal limit, passes step 6 and leaves step 7 for step 9 (R74). -/
theorem decideGroup_of_escalated {t : ToteFields} {s : State} (free : ∀ r ∈ s.admission.table, r.order ≠ t.order)
    (escalated : t.order = 0 ∨ s.admission.refusalLimit ≤ t.refusals) : decideGroup t s = decideDivert s := by
  rw [decideGroup, hasReservation_eq_false.mpr free, if_neg Bool.false_ne_true, if_pos escalated]

/-- The whole decision of an escalated GROUP tote is the one that its action DIVERT would give (R74). -/
theorem decision_of_escalated {t : ToteFields} {s : State} (group : lookup s.plan t.dest t.cls = .group)
    (free : ∀ r ∈ s.admission.table, r.order ≠ t.order)
    (escalated : t.order = 0 ∨ s.admission.refusalLimit ≤ t.refusals) :
    decision (some t) s = (declined t s).getD (decideDivert s) := by
  rw [decision_of_group group, decideGroup_of_escalated free escalated]

/-! ### Tests that read no plan -/

@[simp] theorem declined_with_plan (t : ToteFields) (s : State) (plan : RoutePlan) :
    declined t { s with plan := plan } = declined t s := rfl

@[simp] theorem decideDivert_with_plan (s : State) (plan : RoutePlan) :
    decideDivert { s with plan := plan } = decideDivert s := rfl

/-! ### What steps 3 to 5 and step 9 can answer -/

/-- Steps 3 to 5 admit no tote (R72). -/
theorem declined_ne_admitted (t : ToteFields) (s : State) (how : Admit) : declined t s ≠ some (.admitted how) := by
  unfold declined
  split_ifs <;> nofun

/-- Step 9 admits with no reservation (R76). -/
theorem decideDivert_eq_admitted {s : State} {how : Admit} (h : decideDivert s = .admitted how) : how = .plain := by
  unfold decideDivert at h
  split_ifs at h
  exact (Decision.admitted.inj h).symm

/-- A tote that passes steps 3 to 5 and is decided at step 9 is admitted, if at all, with no reservation. -/
theorem how_plain_of_decided_as_divert {t : ToteFields} {s : State} {how : Admit}
    (h : (declined t s).getD (decideDivert s) = .admitted how) : how = .plain := by
  cases tests : declined t s with
  | none => exact decideDivert_eq_admitted (by simpa [tests] using h)
  | some d =>
    have admitted : d = .admitted how := by simpa [tests] using h
    exact absurd (tests.trans (congrArg some admitted)) (declined_ne_admitted t s how)

/-- Settles O10: step 7 leads to the decision of a DIVERT tote, which reads no plan and admits with no reservation. -/
theorem escalatedGroupIsDecidedAsDivert : Obligations.EscalatedGroupIsDecidedAsDivert := by
  intro t s u how lead group free escalated
  have asDivert := decision_of_escalated group free escalated
  constructor
  · intro plan divert
    rw [asDivert, decision_of_divert (s := { s with plan := plan }) divert, declined_with_plan t s plan,
      decideDivert_with_plan s plan]
  · intro admitted
    obtain rfl := how_plain_of_decided_as_divert (asDivert.symm.trans admitted)
    exact ⟨rfl, rfl⟩

end Sys2Proof.Machine
end

section
/-! SUPPORT. The front order and its READY lamp (R135, R142): the searches through the zones as quantifiers over them, the front
record and its completeness read off them, and what one evaluation of the lamp gives. -/

namespace Sys2Proof.Machine

/-! ### Searches through the zones -/

theorem anyRecordUpTo_iff (l : Lane) (p : LaneRecord → Bool) (n : Nat) :
    anyRecordUpTo l p n = true ↔ ∃ k r, 1 ≤ k ∧ k ≤ n ∧ (zone l k).record = some r ∧ p r = true := by
  induction n with
  | zero =>
    simp only [anyRecordUpTo]
    constructor
    · nofun
    · rintro ⟨k, _, low, high, _⟩
      omega
  | succ n ih =>
    rw [anyRecordUpTo, Bool.or_eq_true, ih]
    constructor
    · rintro (here | ⟨k, r, low, high, there⟩)
      · split at here
        next r stands => exact ⟨n + 1, r, by omega, le_rfl, stands, here⟩
        next => cases here
      · exact ⟨k, r, low, by omega, there⟩
    · rintro ⟨k, r, low, high, stands, holds⟩
      rcases Nat.le_succ_iff.mp high with below | rfl
      · exact .inr ⟨k, r, low, below, stands, holds⟩
      · exact .inl (by simp [stands, holds])

/-- Some zone of the lane holds a record with the property. -/
theorem anyRecord_iff (l : Lane) (p : LaneRecord → Bool) :
    anyRecord l p = true ↔ ∃ k r, 1 ≤ k ∧ k ≤ l.zoneCount ∧ (zone l k).record = some r ∧ p r = true :=
  anyRecordUpTo_iff l p l.zoneCount

/-- The search for the front record finds the record of the highest zone with one. -/
theorem frontUpTo_eq_some_iff (l : Lane) (r : LaneRecord) (n : Nat) :
    frontUpTo l n = some r ↔
      ∃ k, 1 ≤ k ∧ k ≤ n ∧ (zone l k).record = some r ∧ ∀ j, k < j → j ≤ n → (zone l j).record = none := by
  induction n with
  | zero =>
    simp only [frontUpTo]
    constructor
    · nofun
    · rintro ⟨k, low, high, _⟩
      omega
  | succ n ih =>
    cases top : (zone l (n + 1)).record with
    | some m =>
      have found : frontUpTo l (n + 1) = some m := by simp only [frontUpTo, top]
      rw [found]
      constructor
      · rintro ⟨⟩
        exact ⟨n + 1, by omega, le_rfl, top, fun j above high => by omega⟩
      · rintro ⟨k, low, high, stands, none_above⟩
        rcases Nat.le_succ_iff.mp high with below | rfl
        · exact absurd (none_above (n + 1) (by omega) le_rfl) (by simp [top])
        · exact top.symm.trans stands
    | none =>
      have skipped : frontUpTo l (n + 1) = frontUpTo l n := by simp only [frontUpTo, top]
      rw [skipped, ih]
      constructor
      · rintro ⟨k, low, high, stands, none_above⟩
        refine ⟨k, low, by omega, stands, fun j above atMost => ?_⟩
        rcases Nat.le_succ_iff.mp atMost with below | rfl
        · exact none_above j above below
        · exact top
      · rintro ⟨k, low, high, stands, none_above⟩
        rcases Nat.le_succ_iff.mp high with below | rfl
        · exact ⟨k, low, below, stands, fun j above atMost => none_above j above (by omega)⟩
        · exact absurd stands (by simp [top])

/-- The front record is that of the highest zone with one (R135). -/
theorem frontRecord_eq_some_iff (l : Lane) (r : LaneRecord) :
    frontRecord l = some r ↔
      ∃ k, 1 ≤ k ∧ k ≤ l.zoneCount ∧ (zone l k).record = some r ∧
        ∀ j, k < j → j ≤ l.zoneCount → (zone l j).record = none :=
  frontUpTo_eq_some_iff l r l.zoneCount

/-! ### A complete front order -/

/-- A record is single when its order is 0, its count is outside 2 to 8, or it is marked CARRIED (R135). -/
theorem multiTote_eq_false_iff (r : LaneRecord) :
    multiTote r = false ↔ r.tote.order = 0 ∨ r.tote.count < 2 ∨ 8 < r.tote.count ∨ r.carried = true := by
  simp only [multiTote, Bool.and_eq_false_iff, bne_eq_false_iff_eq, decide_eq_false_iff_not, not_le, Bool.not_eq_false', or_assoc]

theorem sequencesUpTo_iff (l : Lane) (order : Ident) (count : Nat) :
    sequencesUpTo l order count = true ↔
      ∀ n, 1 ≤ n → n ≤ count → ∃ k m, 1 ≤ k ∧ k ≤ l.zoneCount ∧ (zone l k).record = some m ∧
        multiTote m = true ∧ m.tote.order = order ∧ m.tote.seq = n := by
  induction count with
  | zero =>
    refine ⟨fun _ n low high => ?_, fun _ => rfl⟩
    omega
  | succ count ih =>
    rw [sequencesUpTo, Bool.and_eq_true, ih, anyRecord_iff]
    simp only [multiToteOf, Bool.and_eq_true, beq_iff_eq, and_assoc]
    constructor
    · rintro ⟨last, earlier⟩ n low high
      rcases Nat.le_succ_iff.mp high with below | rfl
      · exact earlier n low below
      · exact last
    · intro all
      exact ⟨all (count + 1) (by omega) le_rfl, fun n low high => all n low (by omega)⟩

/-- The front order is complete when there is a front record and, unless it is single, every sequence of its order stands (R135). -/
theorem frontComplete_iff (l : Lane) :
    frontComplete l = true ↔
      ∃ r, frontRecord l = some r ∧ (multiTote r = false ∨ sequencesUpTo l r.tote.order r.tote.count = true) := by
  unfold frontComplete
  cases frontRecord l with
  | none => simp
  | some r => cases single : multiTote r <;> simp [single]

/-! ### The READY lamp -/

theorem readyHolds_iff (l : Lane) :
    readyHolds l = true ↔ l.state = .running ∧ (zone l l.zoneCount).state = .held ∧ frontComplete l = true := by
  simp [readyHolds, and_assoc]

/-- The lamp is dark when there is no front record: no front order is complete. -/
theorem readyHolds_of_no_front {l : Lane} (h : frontRecord l = none) : readyHolds l = false := by
  have incomplete : frontComplete l = false := by simp only [frontComplete, h]
  rw [readyHolds, incomplete, Bool.and_false]

/-- A change from dark to lit raises ORDER_READY of the front record (R142). -/
theorem evalReady_of_rise {s : State} {r : LaneRecord} (front : frontRecord s.lane = some r) (ready : readyHolds s.lane = true)
    (dark : s.counter.readyLit = false) :
    evalReady s =
      raise .orderReady (readyNote s.belt.pos r) { s with counter := { s.counter with readyLit := true } } := by
  simp [evalReady, front, ready, dark]

/-- A lit lamp that stays lit changes nothing. -/
theorem evalReady_of_lit {s : State} (ready : readyHolds s.lane = true) (lit : s.counter.readyLit = true) : evalReady s = s := by
  have same : { s with counter := { s.counter with readyLit := true } } = s := by rw [← lit]
  simp only [evalReady, ready, lit, same, Bool.not_true, Bool.and_false, Bool.false_eq_true, if_false]

/-- A lamp that is not to be lit goes dark without an event. -/
theorem evalReady_of_not_ready {s : State} (h : readyHolds s.lane = false) :
    evalReady s = { s with counter := { s.counter with readyLit := false } } := by
  simp [evalReady, h]

/-- Settles O37: the searches as quantifiers over the zones, and the three evaluations of the lamp. -/
theorem readyShowsTheFrontOrder : Obligations.ReadyShowsTheFrontOrder := by
  refine ⟨fun l => ⟨frontRecord_eq_some_iff l, ?complete⟩, fun s r front => ⟨?rise, ?lit, ?dark⟩, ?noFront⟩
  case complete =>
    simp only [frontComplete_iff, sequencesUpTo_iff, ← multiTote_eq_false_iff, Bool.not_eq_false]
  case rise => exact fun ready dark => evalReady_of_rise front ((readyHolds_iff _).mpr ready) dark
  case lit => exact fun ready lit => evalReady_of_lit ((readyHolds_iff _).mpr ready) lit
  case dark =>
    intro notReady
    exact evalReady_of_not_ready (Bool.eq_false_iff.mpr (mt (readyHolds_iff _).mp notReady))
  case noFront => exact fun s absent => evalReady_of_not_ready (readyHolds_of_no_front absent)

end Sys2Proof.Machine
end

section
/-! SUPPORT. What a step is made of: the events that the commands bring to the node, with the reached deadlines taken before them. A
property that every single event keeps is kept by every command and every step. -/

namespace Sys2Proof.Machine

/-- The single events of the node keep a property: the deadlines, the field wiring, the clock, the frames and the asks. -/
structure KeptByEvents (P : State → Prop) : Prop where
  pending : ∀ {s}, P s → ∀ rest, P { s with pending := rest }
  takeTrailing : ∀ {s}, P s → P (takeTrailing s)
  takeBlocked : ∀ {s}, P s → P (takeBlocked s)
  takeHead : ∀ {s}, P s → P (takeHead s)
  takeReservations : ∀ {s}, P s → P (takeReservations s)
  takeFire : ∀ {s}, P s → P (takeFire s)
  takeRelease : ∀ {s}, P s → P (takeRelease s)
  takeEntries : ∀ {s}, P s → P (takeEntries s)
  powerUp : ∀ {s}, P s → ∀ enc levels, P (powerUp enc levels s)
  pinAsserted : ∀ {s}, P s → P (pinAsserted s)
  pinReleased : ∀ {s}, P s → P (pinReleased s)
  encTakes : ∀ {s}, P s → ∀ gateRuns level, P { s with belt := encTakes gateRuns level s.belt }
  gateOver : ∀ {s}, P s → P (gateOver s)
  eyeTakes : ∀ {s}, P s → ∀ level, P (eyeTakes level s)
  throwOver : ∀ {s}, P s → ∀ home, P (throwOver home s)
  returnOver : ∀ {s}, P s → ∀ home, P (returnOver home s)
  homeBecomesActive : ∀ {s}, P s → P (homeBecomesActive s)
  homeWaitOver : ∀ {s}, P s → P (homeWaitOver s)
  zoneEyeTakes : ∀ {s}, P s → ∀ k, 1 ≤ k → k ≤ 8 → ∀ level, P (zoneEyeTakes k level s)
  transferRunsOut : ∀ {s}, P s → ∀ k, P (transferRunsOut k s)
  dischargeRunsOut : ∀ {s}, P s → P (dischargeRunsOut s)
  buttonTakes : ∀ {s}, P s → ∀ level, P (buttonTakes level s)
  pressTaken : ∀ {s}, P s → P (pressTaken s)
  waitLampOut : ∀ {s}, P s → P (waitLampOut s)
  losTakes : ∀ {s}, P s → ∀ level partly, P (losTakes level partly s)
  idleSeen : ∀ {s}, P s → P (idleSeen s)
  transmitterIdle : ∀ {s}, P s → P (transmitterIdle s)
  tickTimers : ∀ {s}, P s → P (tickTimers s)
  badFrame : ∀ {s}, P s → P (badFrame s)
  takeTote : ∀ {s}, P s → ∀ source payload, P (takeTote (normalise source payload) s)
  position : ∀ {s}, P s → ∀ n, P { s with line := { s.line with position := n } }
  forwardFrame : ∀ {s}, P s → ∀ f, P (forwardFrame f s)
  queueAnswer : ∀ {s}, P s → ∀ f, P (queueAnswer f s)
  nodeReset : ∀ {s}, P s → ∀ answer, P (takeNodeReset answer s)
  ask : ∀ {s}, P s → ∀ c fs, c.lengthOk fs.length = true → c ≠ .nodeReset → P (askEffect c fs s).1

namespace KeptByEvents

variable {P : State → Prop} {s t : State}

theorem settle (kept : KeptByEvents P) (h : P s) : P (Machine.settle s) :=
  kept.takeEntries (kept.takeRelease (kept.takeFire (kept.takeReservations (kept.takeHead (kept.takeBlocked
    (kept.takeTrailing h))))))

/-! ### Frames -/

theorem numberArrives (kept : KeptByEvents P) (h : P s) (f : LineFrame) : P (Machine.numberArrives f s) := by
  unfold Machine.numberArrives
  dsimp only
  split
  · exact kept.forwardFrame (kept.position h _) _
  · exact kept.badFrame h

theorem toteArrives (kept : KeptByEvents P) (h : P s) (f : LineFrame) : P (Machine.toteArrives f s) := by
  unfold Machine.toteArrives
  split
  · exact kept.takeTote h _ _
  · exact kept.badFrame h

theorem broadcastEffect (kept : KeptByEvents P) (h : P s) (c : AskCode) (fs : List Byte) :
    P (Machine.broadcastEffect c fs s) := by
  unfold Machine.broadcastEffect
  split
  · rename_i right
    by_cases reset : c = .nodeReset
    · simp only [reset, askEffect]
      exact kept.nodeReset h none
    · exact kept.ask h c fs (Bool.and_eq_true_iff.mp right).2 reset
  · exact h

theorem answeredAsk (kept : KeptByEvents P) (h : P s) (tag : Byte) (c : AskCode) (fs : List Byte) :
    P (Machine.answeredAsk tag c fs s) := by
  unfold Machine.answeredAsk
  split
  · exact kept.queueAnswer h _
  · split
    · exact kept.nodeReset h _
    · exact kept.queueAnswer (kept.ask h c fs (by simp_all) ‹_›) _

theorem answeredUnknown (kept : KeptByEvents P) (h : P s) (tag : Byte) (payload : List Byte) :
    P (Machine.answeredUnknown tag payload s) := by
  unfold Machine.answeredUnknown
  split <;> exact kept.queueAnswer h _

theorem askArrives (kept : KeptByEvents P) (h : P s) (f : LineFrame) : P (Machine.askArrives f s) := by
  unfold Machine.askArrives
  split
  · split
    · exact kept.forwardFrame (kept.broadcastEffect h _ _) _
    · exact kept.forwardFrame h _
  · split
    · split
      · exact kept.answeredAsk h _ _ _
      · exact kept.answeredUnknown h _ _
    · exact kept.forwardFrame h _

theorem frameArrives (kept : KeptByEvents P) (h : P s) (f : Frame) : P (Machine.frameArrives f s) := by
  unfold Machine.frameArrives
  dsimp only
  split
  · exact kept.badFrame h
  · split
    · exact kept.numberArrives h _
    · exact kept.toteArrives h _
    · exact kept.askArrives h _
    · exact kept.forwardFrame h _
    · exact kept.forwardFrame h _

theorem received (kept : KeptByEvents P) (h : P s) (f : Frame) : P (Machine.received f s) := by
  unfold Machine.received
  split
  · exact kept.frameArrives h f
  · exact h

theorem receivedRaw (kept : KeptByEvents P) (h : P s) (raw : RawFrame) : P (Machine.receivedRaw raw s) := by
  unfold Machine.receivedRaw
  split
  · split
    · exact kept.frameArrives h _
    · exact kept.badFrame h
  · exact h

/-! ### Commands and steps -/

/-- Every command keeps what the single events keep: it settles the reached deadlines and brings its own event. -/
theorem exec (kept : KeptByEvents P) (h : P s) {c : Instr} (e : Machine.exec c s = .next t) : P t := by
  have settled := kept.settle h
  cases c <;> obtain rfl := Host.Outcome.next.inj e
  case powerOn enc levels => exact kept.powerUp h enc levels
  case resetPinAssert => exact kept.pinAsserted settled
  case resetPinRelease => exact kept.pinReleased h
  case encoderEdge level => exact kept.encTakes settled _ level
  case gateExpiry => exact kept.gateOver settled
  case eyeChange level => exact kept.eyeTakes settled level
  case trailingEdge => exact kept.takeTrailing h
  case blockedDeadline => exact kept.takeBlocked h
  case headDeadlineExpiry => exact kept.takeHead h
  case reservationExpiry => exact kept.takeReservations h
  case fireReached => exact kept.takeFire h
  case throwEnd home => exact kept.throwOver settled home
  case releaseReached => exact kept.takeRelease h
  case returnEnd home => exact kept.returnOver settled home
  case homeActive => exact kept.homeBecomesActive settled
  case homeWaitExpiry => exact kept.homeWaitOver settled
  case zoneEyeChange zone level => exact kept.zoneEyeTakes settled (zone.val + 1) (by omega) (by omega) level
  case transferTimeout zone => exact kept.transferRunsOut settled _
  case entryDeadline => exact kept.takeEntries h
  case dischargeTimeout => exact kept.dischargeRunsOut settled
  case buttonChange level => exact kept.buttonTakes settled level
  case buttonPress => exact kept.pressTaken settled
  case waitLampExpiry => exact kept.waitLampOut settled
  case losChange level partly => exact kept.losTakes settled level partly
  case frameError raw => exact kept.receivedRaw settled raw
  case transmitterFree => exact kept.transmitterIdle settled
  case receiverIdleWaitEnd => exact kept.idleSeen settled
  all_goals exact kept.received settled _

/-- A step keeps what the single events keep: it takes the front command, or lets a millisecond pass. -/
theorem step (kept : KeptByEvents P) (h : P s) (e : Machine.step s = .next t) : P t := by
  unfold Machine.step at e
  split at e
  · cases e
    unfold tick
    dsimp only
    split
    · exact h
    · split
      · exact kept.settle h
      · exact kept.tickTimers (kept.settle h)
  · exact kept.exec (kept.pending h _) e

end KeptByEvents

end Sys2Proof.Machine
end

section
/-! SUPPORT. The zones as an indexed family: what a zone is after another was put, how many zones hold a record, and which updates of
the lane leave the zones alone. -/

namespace Sys2Proof.Machine

/-! ### One zone after an update -/

theorem zone_eq_getElem (l : Lane) {k : Nat} (low : 1 ≤ k) (high : k ≤ 8) : zone l k = l.zones[k - 1] := by
  have inside : k - 1 < 8 := by omega
  simp [zone, Vector.getD, inside]

/-- Beyond place 8 there is no zone. -/
theorem zone_of_gt (l : Lane) {k : Nat} (high : 8 < k) : zone l k = emptyZone := by
  have outside : ¬ k - 1 < 8 := by omega
  simp [zone, Vector.getD, outside]

/-- Two lanes with the same zones have the same zone k. -/
theorem zone_congr {l m : Lane} (h : m.zones = l.zones) (k : Nat) : zone m k = zone l k := by
  simp only [zone, h]

@[simp] theorem zone_putZone_self (l : Lane) (z : Zone) {k : Nat} (low : 1 ≤ k) (high : k ≤ 8) :
    zone (putZone k z l) k = z := by
  rw [zone_eq_getElem _ low high]
  simp [putZone]

theorem zone_putZone_of_ne (l : Lane) (z : Zone) {j k : Nat} (low : 1 ≤ j) (other : j ≠ k) (first : 1 ≤ k) :
    zone (putZone k z l) j = zone l j := by
  rcases Nat.lt_or_ge 8 j with high | high
  · simp only [zone_of_gt _ high]
  · have places : k - 1 ≠ j - 1 := by omega
    rw [zone_eq_getElem _ low high, zone_eq_getElem _ low high]
    simp [putZone, Vector.getElem_setIfInBounds_ne _ places]

/-- Zone j after zone k was put, for the places that exist. -/
theorem zone_putZone (l : Lane) (z : Zone) {j k : Nat} (lowJ : 1 ≤ j) (low : 1 ≤ k) (high : k ≤ 8) :
    zone (putZone k z l) j = if j = k then z else zone l j := by
  split
  · rename_i same
    rw [same, zone_putZone_self l z low high]
  · rename_i other
    exact zone_putZone_of_ne l z lowJ other low

/-- Putting a zone beyond place 8 changes nothing. -/
theorem putZone_of_gt (l : Lane) (z : Zone) {k : Nat} (high : 8 < k) : putZone k z l = l := by
  have outside : 8 ≤ k - 1 := by omega
  simp [putZone, Vector.setIfInBounds_eq_of_size_le outside]

/-! ### How many zones hold a record -/

/-- 1 for a zone with a record, 0 for one without. -/
def holdsOne (z : Zone) : Nat := if z.record.isSome then 1 else 0

theorem holdsOne_le (z : Zone) : holdsOne z ≤ 1 := by
  unfold holdsOne
  split <;> omega

@[simp] theorem holdsOne_of_some {z : Zone} {r : LaneRecord} (h : z.record = some r) : holdsOne z = 1 := by
  simp [holdsOne, h]

@[simp] theorem holdsOne_of_none {z : Zone} (h : z.record = none) : holdsOne z = 0 := by
  simp [holdsOne, h]

theorem heldUpTo_succ (l : Lane) (n : Nat) : heldUpTo l (n + 1) = heldUpTo l n + holdsOne (zone l (n + 1)) := rfl

theorem heldUpTo_le (l : Lane) (n : Nat) : heldUpTo l n ≤ n := by
  induction n with
  | zero => exact le_rfl
  | succ n ih =>
    rw [heldUpTo_succ]
    have one := holdsOne_le (zone l (n + 1))
    omega

/-- No more zones hold a record than there are. -/
theorem held_le (l : Lane) : held l ≤ l.zoneCount := heldUpTo_le l l.zoneCount

/-- The count depends on which zones hold a record alone. -/
theorem heldUpTo_congr {l m : Lane} (n : Nat)
    (h : ∀ k, 1 ≤ k → k ≤ n → (zone m k).record.isSome = (zone l k).record.isSome) : heldUpTo m n = heldUpTo l n := by
  induction n with
  | zero => rfl
  | succ n ih =>
    rw [heldUpTo_succ, heldUpTo_succ, ih fun k low high => h k low (by omega), holdsOne, holdsOne,
      h (n + 1) (by omega) le_rfl]

/-- The count after zone k was put: its old record goes, its new one comes. -/
theorem heldUpTo_putZone (l : Lane) (z : Zone) {k : Nat} (low : 1 ≤ k) (high : k ≤ 8) (n : Nat) :
    heldUpTo (putZone k z l) n + (if k ≤ n then holdsOne (zone l k) else 0) =
      heldUpTo l n + if k ≤ n then holdsOne z else 0 := by
  induction n with
  | zero =>
    have none : ¬ k ≤ 0 := by omega
    simp [none, heldUpTo]
  | succ n ih =>
    rw [heldUpTo_succ, heldUpTo_succ, zone_putZone l z (by omega) low high]
    rcases Nat.lt_trichotomy k (n + 1) with before | rfl | after
    · have inside : k ≤ n := by omega
      have other : n + 1 ≠ k := by omega
      simp only [inside, before.le, other, if_true, if_false] at ih ⊢
      omega
    · have outside : ¬ n + 1 ≤ n := by omega
      simp only [outside, le_refl, if_true, if_false] at ih ⊢
      omega
    · have outside : ¬ k ≤ n := by omega
      have outside' : ¬ k ≤ n + 1 := by omega
      have other : n + 1 ≠ k := by omega
      simp only [outside, outside', other, if_false] at ih ⊢
      omega

theorem held_congr {l m : Lane} (count : m.zoneCount = l.zoneCount)
    (h : ∀ k, 1 ≤ k → (zone m k).record.isSome = (zone l k).record.isSome) : held m = held l := by
  rw [held, held, count]
  exact heldUpTo_congr _ fun k low _ => h k low

/-- Two lanes with the same zones hold as many records. -/
theorem held_of_zones {l m : Lane} (count : m.zoneCount = l.zoneCount) (zones : m.zones = l.zones) : held m = held l :=
  held_congr count fun k _ => by rw [zone_congr zones k]

/-- Putting a zone adds at most one record. -/
theorem held_putZone_le (l : Lane) (z : Zone) {k : Nat} (low : 1 ≤ k) : held (putZone k z l) ≤ held l + holdsOne z := by
  rcases Nat.lt_or_ge 8 k with high | high
  · rw [putZone_of_gt l z high]
    omega
  · have count := heldUpTo_putZone l z low high l.zoneCount
    simp only [held, putZone_zoneCount]
    split at count <;> omega

/-- Putting a zone without a new record adds none. -/
theorem held_putZone_le_of_record (l : Lane) (z : Zone) {k : Nat} (low : 1 ≤ k)
    (h : z.record.isSome = true → (zone l k).record.isSome = true) : held (putZone k z l) ≤ held l := by
  rcases Nat.lt_or_ge 8 k with high | high
  · rw [putZone_of_gt l z high]
  · have count := heldUpTo_putZone l z low high l.zoneCount
    have fewer : holdsOne z ≤ holdsOne (zone l k) := by
      unfold holdsOne
      split
      · rw [if_pos (h ‹_›)]
      · omega
    simp only [held, putZone_zoneCount]
    split at count <;> omega

/-- A record that moves one zone on leaves no more zones with a record. -/
theorem held_moved_le (l : Lane) {a b : Zone} {k : Nat} {r : LaneRecord} (low : 2 ≤ k)
    (behind : (zone l (k - 1)).record = some r) (gone : a.record = none) :
    held (putZone k b (putZone (k - 1) a l)) ≤ held l := by
  have inside : k - 1 ≤ 8 := by
    by_contra outside
    rw [zone_of_gt l (by omega)] at behind
    cases behind
  have first := heldUpTo_putZone l a (by omega : 1 ≤ k - 1) inside l.zoneCount
  rw [holdsOne_of_some behind, holdsOne_of_none gone] at first
  rcases Nat.lt_or_ge 8 k with high | high
  · rw [putZone_of_gt _ b high]
    simp only [held, putZone_zoneCount]
    split at first <;> omega
  · have second := heldUpTo_putZone (putZone (k - 1) a l) b (by omega : 1 ≤ k) high l.zoneCount
    have one := holdsOne_le b
    simp only [held, putZone_zoneCount]
    split at first <;> split at second <;> omega

end Sys2Proof.Machine
end

section
/-! SUPPORT. What the lane does onward: jams, entries from the inbound list, transfers and discharges move records on and take them away,
but bring none. The bounds of the lane, of the totes and of the queues all follow from this one relation. -/

namespace Sys2Proof.Machine

/-- A record stands in a zone or in the inbound list. -/
def InLane (l : Lane) (r : LaneRecord) : Prop :=
  (∃ k, 1 ≤ k ∧ (zone l k).record = some r) ∨ ∃ i ∈ l.inbound, i.record = r

/-- A zone that was put brings its own record alone. -/
theorem InLane.of_putZone {l : Lane} {k : Nat} {z : Zone} {r : LaneRecord} (low : 1 ≤ k) (h : InLane (putZone k z l) r) :
    InLane l r ∨ z.record = some r := by
  rcases h with ⟨j, lowJ, stands⟩ | waits
  · by_cases same : j = k
    · subst same
      rcases Nat.lt_or_ge 8 j with high | high
      · rw [putZone_of_gt l z high] at stands
        exact .inl (.inl ⟨j, lowJ, stands⟩)
      · rw [zone_putZone_self l z low high] at stands
        exact .inr stands
    · rw [zone_putZone_of_ne l z lowJ same low] at stands
      exact .inl (.inl ⟨j, lowJ, stands⟩)
  · exact .inl (.inr waits)

/-- `t` comes from `s` by what the lane does onward: its settings and the other blocks stand, no record, inbound record or reservation is
new, no more room is taken, and the Line Port and the discharge count stay in their bounds. -/
structure LaneOnward (s t : State) : Prop where
  side : LaneSide s t
  admission : t.admission = s.admission
  inbound : t.lane.inbound <:+ s.lane.inbound
  records : ∀ r, InLane t.lane r → InLane s.lane r
  room : held t.lane + t.lane.inbound.length ≤ held s.lane + s.lane.inbound.length
  port : PortBounded s.line → PortBounded t.line
  count : s.counter.count ≤ 255 → t.counter.count ≤ 255

theorem LaneOnward.refl (s : State) : LaneOnward s s :=
  ⟨.refl s, rfl, List.suffix_rfl, fun _ h => h, le_rfl, id, id⟩

theorem LaneOnward.trans {s t u : State} (h : LaneOnward s t) (g : LaneOnward t u) : LaneOnward s u where
  side := h.side.trans g.side
  admission := g.admission.trans h.admission
  inbound := g.inbound.trans h.inbound
  records := fun r i => h.records r (g.records r i)
  room := g.room.trans h.room
  port := fun b => g.port (h.port b)
  count := fun b => g.count (h.count b)

/-! ### Events, the lamp and the Counter Interface -/

/-- An update that leaves lane, reservations and the discharge count alone. -/
theorem LaneOnward.of_same_lane {s t : State} (side : LaneSide s t) (lane : t.lane = s.lane)
    (admission : t.admission = s.admission) (port : PortBounded s.line → PortBounded t.line)
    (count : s.counter.count ≤ 255 → t.counter.count ≤ 255) : LaneOnward s t :=
  ⟨side, admission, by rw [lane], by simp [lane], by rw [lane], port, count⟩

theorem raise_onward (k : NoteKind) (n : NoteBody) (s : State) : LaneOnward s (raise k n s) :=
  .of_same_lane (raise_laneSide k n s) rfl rfl (raise_bounded k n) id

/-- The Counter Interface may change as it likes within the range of its count. -/
theorem counter_onward (s : State) {c : Counter} (count : s.counter.count ≤ 255 → c.count ≤ 255) :
    LaneOnward s { s with counter := c } :=
  .of_same_lane (by constructor <;> first | rfl | exact .refl _) rfl rfl id count

theorem evalReady_onward (s : State) : LaneOnward s (evalReady s) := by
  have lit := counter_onward s (c := { s.counter with readyLit := readyHolds s.lane }) id
  unfold evalReady
  dsimp only
  split
  · split
    · exact lit.trans (raise_onward _ _ _)
    · exact lit
  · exact lit

theorem refuseRequest_onward (r : RefuseReason) (n : Nat) (s : State) : LaneOnward s (refuseRequest r n s) :=
  (counter_onward s (c := { s.counter with waitTimer := some 0 }) id).trans (raise_onward _ _ _)

theorem quietEnd_onward (s : State) : LaneOnward s { s with counter := quietEnd s.counter } :=
  counter_onward s fun _ => Nat.zero_le 255

theorem endAfterDischarge_onward (s : State) : LaneOnward s (endAfterDischarge s) := by
  unfold endAfterDischarge
  dsimp only
  split
  · split
    · exact (quietEnd_onward s).trans (refuseRequest_onward _ _ _)
    · exact quietEnd_onward s
  · exact quietEnd_onward s

theorem bump_le (top v : Nat) : bump top v ≤ top := Nat.min_le_left top (v + 1)

theorem completionTaken_onward (r : LaneRecord) (s : State) : LaneOnward s (completionTaken r s) := by
  unfold completionTaken
  dsimp only
  split
  · exact (counter_onward s fun _ => bump_le 255 _).trans (raise_onward _ _ _)
  · exact ((counter_onward s fun _ => bump_le 255 _).trans (raise_onward _ _ _)).trans (endAfterDischarge_onward _)

/-! ### Discharges -/

/-- A zone that was put without a new record; the discharge timer and the mark of its timeout may change with it. Zone 0 is zone 1. -/
theorem putZone_onward {s : State} (k : Nat) (z : Zone) (same : z.record = (zone s.lane k).record ∨ z.record = none)
    (discharge : Option Timer) (late : Bool) :
    LaneOnward s { s with lane := { putZone k z s.lane with discharge := discharge, lateTimeout := late } } := by
  obtain ⟨j, low, put, old⟩ : ∃ j, 1 ≤ j ∧ putZone k z s.lane = putZone j z s.lane ∧ zone s.lane k = zone s.lane j := by
    rcases Nat.eq_zero_or_pos k with rfl | low
    · exact ⟨1, le_rfl, rfl, rfl⟩
    · exact ⟨k, low, rfl, rfl⟩
  rw [put]
  rw [old] at same
  refine ⟨by constructor <;> first | rfl | exact .refl _, rfl, List.suffix_rfl, fun r stands => ?_, ?_, id, id⟩
  · have moved : InLane (putZone j z s.lane) r := stands
    rcases moved.of_putZone low with stood | new
    · exact stood
    · rcases same with same | same
      · exact .inl ⟨j, low, same ▸ new⟩
      · exact absurd (same.symm.trans new) nofun
  · have same_zones : held { putZone j z s.lane with discharge := discharge, lateTimeout := late } = held (putZone j z s.lane) :=
      held_of_zones rfl rfl
    refine Nat.add_le_add_right (same_zones.trans_le (held_putZone_le_of_record s.lane z low fun some => ?_)) _
    rcases same with same | same
    · rwa [← same]
    · rw [same] at some
      cases some

/-- A zone takes a new state, mark or timer, with its record or without one. -/
theorem zoneState_onward {s : State} (k : Nat) (z : Zone) (same : z.record = (zone s.lane k).record ∨ z.record = none) :
    LaneOnward s { s with lane := putZone k z s.lane } :=
  putZone_onward k z same s.lane.discharge s.lane.lateTimeout

theorem dischargedLane_onward (s : State) : LaneOnward s { s with lane := dischargedLane s.lane } :=
  putZone_onward s.lane.zoneCount emptyZone (.inr rfl) none (s.lane.lateTimeout || timerOut s.lane.discharge)

theorem completeDischarge_onward (s : State) : LaneOnward s (completeDischarge s) := by
  have emptied := (dischargedLane_onward s).trans (evalReady_onward _)
  unfold completeDischarge
  dsimp only
  split
  · exact emptied.trans (completionTaken_onward _ _)
  · exact emptied

theorem startDischarge_onward (s : State) : LaneOnward s (startDischarge s) := by
  have passing : LaneOnward s (evalReady { s with lane :=
      { putZone s.lane.zoneCount { zone s.lane s.lane.zoneCount with state := .passing } s.lane with
        discharge := some ⟨0, s.lane.dischargeLimit * 10⟩ } }) :=
    (putZone_onward s.lane.zoneCount { zone s.lane s.lane.zoneCount with state := .passing } (.inl rfl)
      (some ⟨0, s.lane.dischargeLimit * 10⟩) s.lane.lateTimeout).trans (evalReady_onward _)
  unfold startDischarge
  dsimp only
  split
  · exact passing
  · exact passing.trans (completeDischarge_onward _)

theorem idleRequest_onward (n : Nat) (s : State) : LaneOnward s (idleRequest n s) := by
  unfold idleRequest
  split
  · exact refuseRequest_onward _ _ _
  · exact (counter_onward s (c := { s.counter with
      release := .discharging, mode := s.lane.mode, count := 0, group := groupOf s.lane })
      fun _ => Nat.zero_le 255).trans (startDischarge_onward _)

theorem releaseRequest_onward (n : Nat) (s : State) : LaneOnward s (releaseRequest n s) := by
  unfold releaseRequest
  split
  · exact idleRequest_onward n s
  · exact counter_onward s id
  · exact counter_onward s id

theorem endInWaiting_onward (s : State) : LaneOnward s (endInWaiting s) := by
  unfold endInWaiting
  dsimp only
  split
  · exact (quietEnd_onward s).trans (idleRequest_onward _ _)
  · exact quietEnd_onward s

theorem zoneZHeld_onward (s : State) : LaneOnward s (zoneZHeld s) := by
  unfold zoneZHeld
  split
  · split
    · split
      · exact (counter_onward s (c := { s.counter with release := .discharging }) id).trans (startDischarge_onward _)
      · exact endInWaiting_onward _
    · exact endInWaiting_onward _
  · exact .refl s

/-! ### Zones -/

/-- Timers are no records: a lane whose zones hold what they held. -/
theorem LaneOnward.of_same_records {s : State} {l : Lane} {c : Counter} (side : LaneSide s { s with lane := l, counter := c })
    (zones : ∀ k, 1 ≤ k → (zone l k).record = (zone s.lane k).record) (inbound : l.inbound = s.lane.inbound)
    (count : s.counter.count ≤ 255 → c.count ≤ 255) : LaneOnward s { s with lane := l, counter := c } where
  side := side
  admission := rfl
  inbound := by rw [inbound]
  records := by
    rintro r (⟨k, low, stands⟩ | waits)
    · exact .inl ⟨k, low, zones k low ▸ stands⟩
    · exact .inr (inbound ▸ waits)
  room := by
    have same : held l = held s.lane := held_congr side.zoneCount fun k low => by rw [zones k low]
    show held l + l.inbound.length ≤ _
    rw [inbound, same]
  port := id
  count := count

/-- A zone after a change of every zone, for a change that keeps the empty zone. -/
theorem zone_map {l m : Lane} {f : Zone → Zone} (h : m.zones = l.zones.map f) (empty : f emptyZone = emptyZone) {k : Nat}
    (low : 1 ≤ k) : zone m k = f (zone l k) := by
  rcases Nat.lt_or_ge 8 k with high | high
  · rw [zone_of_gt m high, zone_of_gt l high, empty]
  · rw [zone_eq_getElem m low high, zone_eq_getElem l low high]
    simp [h]

theorem zone_stopTimers (l : Lane) {k : Nat} (low : 1 ≤ k) : zone (stopTimers l) k = { zone l k with timer := none } :=
  zone_map (f := fun z => { z with timer := none }) rfl rfl low

theorem jam_onward (detail : Nat) (r : Option LaneRecord) (k : Nat) (s : State) : LaneOnward s (jam detail r k s) := by
  have stopped : LaneOnward s { s with lane := { stopTimers s.lane with state := .jammed }, counter := quietEnd s.counter } :=
    .of_same_records (by constructor <;> first | rfl | exact .refl _)
      (fun j low => by
        have same := zone_congr (l := stopTimers s.lane) (m := { stopTimers s.lane with state := .jammed }) rfl j
        rw [same, zone_stopTimers s.lane low]) rfl fun _ => Nat.zero_le 255
  unfold jam
  dsimp only
  split <;> exact (stopped.trans (evalReady_onward _)).trans (raise_onward _ _ _)

/-- The inbound record that enters zone 1. -/
theorem entered_onward {s : State} {r : InboundRecord} {rest : List InboundRecord} (waits : s.lane.inbound = r :: rest) :
    LaneOnward s { s with lane := { putZone 1 ⟨.held, some r.record, false, none⟩ s.lane with inbound := rest } } where
  side := by constructor <;> first | rfl | exact .refl _
  admission := rfl
  inbound := waits ▸ List.suffix_cons r rest
  records := by
    rintro m (⟨k, low, stands⟩ | ⟨i, later, rfl⟩)
    · have moved : InLane (putZone 1 ⟨.held, some r.record, false, none⟩ s.lane) m := .inl ⟨k, low, stands⟩
      rcases moved.of_putZone le_rfl with old | new
      · exact old
      · exact .inr ⟨r, by simp [waits], Option.some.inj new⟩
    · exact .inr ⟨i, by simp [waits, show i ∈ rest from later], rfl⟩
  room := by
    have count := held_putZone_le s.lane ⟨.held, some r.record, false, none⟩ (le_refl 1)
    have same : held { putZone 1 ⟨.held, some r.record, false, none⟩ s.lane with inbound := rest } =
      held (putZone 1 ⟨.held, some r.record, false, none⟩ s.lane) := held_of_zones rfl rfl
    have one := holdsOne_le ⟨.held, some r.record, false, none⟩
    have length := congrArg List.length waits
    rw [List.length_cons] at length
    show held { putZone 1 ⟨.held, some r.record, false, none⟩ s.lane with inbound := rest } + rest.length ≤ _
    omega
  port := id
  count := id

/-- An entry from the inbound list; a stray entry brings a record, and is no step onward. -/
theorem enterZone1_onward {s : State} (waits : s.lane.inbound ≠ []) : LaneOnward s (enterZone1 s) := by
  unfold enterZone1
  split
  · rename_i r rest first
    exact ((entered_onward first).trans (raise_onward _ _ _)).trans (evalReady_onward _)
  · contradiction

theorem arrive_onward {k : Nat} (low : 2 ≤ k) {s : State} : LaneOnward s (arrive k s) := by
  unfold arrive
  split
  · exact .refl s
  · rename_i r behind
    have gone : (transferPart { zone s.lane (k - 1) with record := none }).record = none := by
      unfold transferPart
      split <;> rfl
    have moved : LaneOnward s { s with
        lane := (putZone k ⟨.held, some r, false, none⟩
          (putZone (k - 1) (transferPart { zone s.lane (k - 1) with record := none }) s.lane)) } := by
      refine ⟨by constructor <;> first | rfl | exact .refl _, rfl, List.suffix_rfl, ?_, ?_, id, id⟩
      · intro m stands
        rcases stands.of_putZone (by omega) with old | new
        · rcases old.of_putZone (by omega) with older | none
          · exact older
          · rw [gone] at none
            cases none
        · exact .inl ⟨k - 1, by omega, behind.trans new⟩
      · exact Nat.add_le_add_right (held_moved_le s.lane low behind gone) _
    dsimp only
    split
    · exact (moved.trans (evalReady_onward _)).trans (zoneZHeld_onward _)
    · exact moved.trans (evalReady_onward _)

theorem startTransfer_onward {k : Nat} (low : 1 ≤ k) {s : State} : LaneOnward s (startTransfer k s) := by
  have started : LaneOnward s (evalReady { s with
      lane := (putZone (k + 1) { zone s.lane (k + 1) with state := .filling }
        (putZone k { zone s.lane k with
          state := .passing, partEnded := !zoneBlocked s k, timer := some ⟨0, s.lane.transferLimit * 10⟩ } s.lane)) }) := by
    refine LaneOnward.trans ?_ (evalReady_onward _)
    refine LaneOnward.trans (zoneState_onward _ _ (.inl (by rfl))) (zoneState_onward _ _ (.inl ?_))
    rw [zone_putZone_of_ne _ _ (by omega) (by omega) low]
  unfold startTransfer
  dsimp only
  split
  · exact started.trans (arrive_onward (by omega))
  · exact started

theorem zone1Fills_onward {s : State} (waits : s.lane.inbound ≠ []) : LaneOnward s (zone1Fills s) := by
  have fills : LaneOnward s (evalReady { s with lane := putZone 1 { zone s.lane 1 with state := .filling } s.lane }) :=
    LaneOnward.trans (zoneState_onward _ _ (.inl (by rfl))) (evalReady_onward _)
  unfold zone1Fills
  dsimp only
  split
  · refine fills.trans (enterZone1_onward ?_)
    rw [(evalReady_keeps _).1]
    exact waits
  · exact fills

theorem dueZone_some {l : Lane} {n k : Nat} (h : dueZone l n = some k) : 1 ≤ k ∧ k ≤ n ∧ transferDue l k = true := by
  induction n with
  | zero => cases h
  | succ n ih =>
    unfold dueZone at h
    split at h
    · cases h
      exact ⟨by omega, le_rfl, ‹_›⟩
    · obtain ⟨low, high, due⟩ := ih h
      exact ⟨low, by omega, due⟩

/-- One thing that the lane does of itself, named: zone 1 fills, zone 1 is emptied, or a transfer starts (R117, R122). -/
theorem laneRule_cases {s t : State} (h : laneRule s = some t) :
    (∃ r rest, (zone s.lane 1).state = .empty ∧ s.lane.inbound = r :: rest ∧ t = zone1Fills s) ∨
    ((zone s.lane 1).state = .filling ∧ s.lane.inbound = [] ∧
      t = evalReady { s with lane := putZone 1 { zone s.lane 1 with state := .empty } s.lane }) ∨
    ∃ k, 1 ≤ k ∧ k ≤ s.lane.zoneCount ∧ transferDue s.lane k = true ∧ t = startTransfer k s := by
  unfold laneRule at h
  split at h
  · rename_i r rest empty waits
    exact .inl ⟨r, rest, empty, waits, (Option.some.inj h).symm⟩
  · rename_i filling none
    exact .inr (.inl ⟨filling, none, (Option.some.inj h).symm⟩)
  · obtain ⟨k, due, rfl⟩ := Option.map_eq_some_iff.1 h
    obtain ⟨low, high, due⟩ := dueZone_some due
    exact .inr (.inr ⟨k, low, high, due, rfl⟩)

theorem laneRule_onward {s t : State} (h : laneRule s = some t) : LaneOnward s t := by
  rcases laneRule_cases h with ⟨r, rest, -, waits, rfl⟩ | ⟨-, -, rfl⟩ | ⟨k, low, -, -, rfl⟩
  · exact zone1Fills_onward (by simp [waits])
  · exact LaneOnward.trans (zoneState_onward _ _ (.inl (by rfl))) (evalReady_onward _)
  · exact startTransfer_onward low

theorem settleLane_onward (s : State) : LaneOnward s (settleLane s) :=
  laneRules_ind LaneOnward.refl LaneOnward.trans laneRule_onward 128 s

theorem zoneKBlocked_onward {k : Nat} (low : 2 ≤ k) (s : State) : LaneOnward s (zoneKBlocked k s) := by
  unfold zoneKBlocked
  split
  · exact jam_onward _ _ _ s
  · exact arrive_onward low
  · exact .refl s
  · split
    · exact zoneState_onward _ _ (.inl (by rfl))
    · exact .refl s

theorem zoneCleared_onward (k : Nat) (s : State) : LaneOnward s (zoneCleared k s) := by
  unfold zoneCleared
  split
  · exact .refl s
  · exact .refl s
  · exact .refl s
  · split
    · refine LaneOnward.trans (zoneState_onward _ _ ?_) (evalReady_onward _)
      unfold transferPart
      split
      · exact .inr rfl
      · exact .inl rfl
    · exact completeDischarge_onward _

theorem transferRunsOut_onward (k : Nat) (s : State) : LaneOnward s (transferRunsOut k s) := by
  unfold transferRunsOut
  split
  · exact .refl s
  · exact (jam_onward _ _ _ s).trans (settleLane_onward _)

theorem dischargeRunsOut_onward (s : State) : LaneOnward s (dischargeRunsOut s) := by
  unfold dischargeRunsOut
  split
  · exact .refl s
  · exact (jam_onward _ _ _ s).trans (settleLane_onward _)

theorem pressTaken_onward (s : State) : LaneOnward s (pressTaken s) := by
  unfold pressTaken
  split
  · exact .refl s
  · exact ((counter_onward s (c := { s.counter with button := .spent, buttonTimer := none }) id).trans
      (releaseRequest_onward 0 _)).trans (settleLane_onward _)

theorem takeReleaseAsk_onward (s : State) : LaneOnward s (takeReleaseAsk s).1 :=
  (releaseRequest_onward 1 s).trans (settleLane_onward _)

end Sys2Proof.Machine
end

section
/-! SUPPORT. The events of the belt's side (the eye, the tracking queue, the diverter, the gate, the link) leave the lane's side of the node
alone: the lane, the Counter Interface and the reservations stand, and the Line Port stays in its bounds. -/

namespace Sys2Proof.Machine

/-- `t` comes from `s` by an event that does not touch the lane's side. -/
structure OffLane (s t : State) : Prop where
  lane : t.lane = s.lane
  counter : t.counter = s.counter
  admission : t.admission = s.admission
  port : PortBounded s.line → PortBounded t.line

theorem OffLane.refl (s : State) : OffLane s s := ⟨rfl, rfl, rfl, id⟩

theorem OffLane.trans {s t u : State} (h : OffLane s t) (g : OffLane t u) : OffLane s u :=
  ⟨g.lane.trans h.lane, g.counter.trans h.counter, g.admission.trans h.admission, fun b => g.port (h.port b)⟩

theorem raise_offLane (k : NoteKind) (n : NoteBody) (s : State) : OffLane s (raise k n s) :=
  ⟨rfl, rfl, rfl, raise_bounded k n⟩

theorem raiseAll_offLane (k : NoteKind) (ns : List NoteBody) (s : State) : OffLane s (raiseAll k ns s) := by
  induction ns generalizing s with
  | nil => exact .refl s
  | cons n ns ih => exact (raise_offLane k n s).trans (ih (raise k n s))

theorem queueAnswer_offLane (f : Frame) (s : State) : OffLane s (queueAnswer f s) := ⟨rfl, rfl, rfl, localJoin_bounded f⟩

theorem forwardFrame_offLane (f : Frame) (s : State) : OffLane s (forwardFrame f s) := by
  unfold forwardFrame
  split
  · exact raise_offLane _ _ s
  · exact ⟨rfl, rfl, rfl, fun b => forwardJoin_bounded f b (by simp_all)⟩

theorem offerHandOff_offLane (f : Frame) (tag order : Ident) (lead : Pos) (s : State) :
    OffLane s (offerHandOff f tag order lead s) := by
  unfold offerHandOff
  split
  · exact raise_offLane _ _ s
  · exact ⟨rfl, rfl, rfl, fun b => handOffJoin_bounded f b (by simp_all)⟩

/-! ### Several events: the other blocks -/

@[simp] theorem raiseAll_belt (k : NoteKind) (ns : List NoteBody) (s : State) : (raiseAll k ns s).belt = s.belt :=
  (raiseAll_laneSide k ns s).belt

@[simp] theorem raiseAll_eye (k : NoteKind) (ns : List NoteBody) (s : State) : (raiseAll k ns s).eye = s.eye :=
  (raiseAll_laneSide k ns s).eye

@[simp] theorem raiseAll_tracking (k : NoteKind) (ns : List NoteBody) (s : State) : (raiseAll k ns s).tracking = s.tracking :=
  (raiseAll_laneSide k ns s).tracking

@[simp] theorem raiseAll_diverter (k : NoteKind) (ns : List NoteBody) (s : State) : (raiseAll k ns s).diverter = s.diverter :=
  (raiseAll_laneSide k ns s).diverter

@[simp] theorem raiseAll_lane (k : NoteKind) (ns : List NoteBody) (s : State) : (raiseAll k ns s).lane = s.lane :=
  (raiseAll_offLane k ns s).lane

@[simp] theorem raiseAll_counter (k : NoteKind) (ns : List NoteBody) (s : State) : (raiseAll k ns s).counter = s.counter :=
  (raiseAll_offLane k ns s).counter

@[simp] theorem raiseAll_admission (k : NoteKind) (ns : List NoteBody) (s : State) :
    (raiseAll k ns s).admission = s.admission :=
  (raiseAll_offLane k ns s).admission

/-! ### The trailing edge and the blocked eye -/

/-- A delivered trailing position changes the Diverter Drive alone. -/
theorem trailingTaken_eq (trail : Pos) (s : State) :
    trailingTaken trail s = { s with diverter := (trailingTaken trail s).diverter } := by
  unfold trailingTaken
  dsimp only
  split
  · rfl
  · rfl
  all_goals split <;> rfl

theorem lengthCheck_offLane (trail : Pos) (s : State) : OffLane s (lengthCheck trail s) := by
  unfold lengthCheck
  split
  · dsimp only
    split
    · exact raise_offLane _ _ s
    · exact .refl s
  all_goals exact .refl s

/-- The length check raises its event, and changes nothing else. -/
theorem lengthCheck_laneSide (trail : Pos) (s : State) : LaneSide s (lengthCheck trail s) := by
  unfold lengthCheck
  split
  · dsimp only
    split
    · exact raise_laneSide _ _ s
    · exact .refl s
  all_goals exact .refl s

/-- The trailing position changes the Diverter Drive alone. -/
theorem deliverTrail_eq (trail : Pos) (s : State) :
    deliverTrail trail s = { s with diverter := (deliverTrail trail s).diverter } := by
  unfold deliverTrail
  split
  · exact trailingTaken_eq trail s
  · rfl

theorem deliverTrail_offLane (trail : Pos) (s : State) : OffLane s (deliverTrail trail s) := by
  rw [deliverTrail_eq]
  exact ⟨rfl, rfl, rfl, id⟩

theorem confirmTrail_offLane (s : State) : OffLane s (confirmTrail s) :=
  ((lengthCheck_offLane _ s).trans (deliverTrail_offLane _ _)).trans ⟨rfl, rfl, rfl, id⟩

/-- The eye is cleared at a confirmed trailing edge (R20). -/
@[simp] theorem confirmTrail_eye (s : State) : (confirmTrail s).eye = clearedEye s.eye := by
  unfold confirmTrail
  dsimp only
  rw [deliverTrail_eq]
  exact congrArg clearedEye (lengthCheck_laneSide _ s).eye

@[simp] theorem confirmTrail_tracking (s : State) : (confirmTrail s).tracking = s.tracking := by
  unfold confirmTrail
  dsimp only
  rw [deliverTrail_eq]
  exact (lengthCheck_laneSide _ s).tracking

/-- What a reached end of the debounce can do: the trailing edge, or nothing (R20). -/
theorem takeTrailing_cases (s : State) :
    (takeTrailing s = s ∧ trailingDue s = false) ∨ (takeTrailing s = confirmTrail s ∧ trailingDue s = true) := by
  cases due : trailingDue s
  · exact .inl ⟨takeTrailing_of_not_due due, rfl⟩
  · exact .inr ⟨by simp [takeTrailing, due], rfl⟩

/-- What a reached blocked-too-long deadline can do: the trailing edge of the same count event, EYE_BLOCKED, or nothing (R24). -/
theorem takeBlocked_cases (s : State) :
    takeBlocked s = s ∨ (takeBlocked s = confirmTrail s ∧ trailingDue s = true) ∨
      ∃ d, s.eye.blockedDeadline = some d ∧ takeBlocked s = eyeBlocked d s := by
  unfold takeBlocked
  split
  · rename_i due
    exact .inr (.inl ⟨rfl, (Bool.and_eq_true_iff.mp due).1⟩)
  · split
    · split
      · rename_i d waits
        exact .inr (.inr ⟨d, waits, rfl⟩)
      · exact .inl rfl
    · exact .inl rfl

theorem eyeBlocked_offLane (d : BlockedDeadline) (s : State) : OffLane s (eyeBlocked d s) :=
  OffLane.trans (t := { s with eye := { s.eye with blockedDeadline := none } }) ⟨rfl, rfl, rfl, id⟩ (raise_offLane _ _ _)

theorem takeTrailing_offLane (s : State) : OffLane s (takeTrailing s) := by
  rcases takeTrailing_cases s with ⟨e, -⟩ | ⟨e, -⟩ <;> rw [e]
  · exact .refl s
  · exact confirmTrail_offLane s

theorem takeBlocked_offLane (s : State) : OffLane s (takeBlocked s) := by
  rcases takeBlocked_cases s with e | ⟨e, -⟩ | ⟨d, -, e⟩ <;> rw [e]
  · exact .refl s
  · exact confirmTrail_offLane s
  · exact eyeBlocked_offLane d s

/-! ### The head, the fire and the release position -/

theorem settleHead_offLane (missed rest : List TrackRecord) (s : State) : OffLane s (settleHead missed rest s) :=
  OffLane.trans (t := { s with tracking := { s.tracking with
    queue := rest.dropWhile (outlived s.belt.pos), headDeadline := headDeadlineOf (rest.dropWhile (outlived s.belt.pos)) } })
    ⟨rfl, rfl, rfl, id⟩ (raiseAll_offLane _ _ _)

@[simp] theorem settleHead_eye (missed rest : List TrackRecord) (s : State) : (settleHead missed rest s).eye = s.eye :=
  raiseAll_eye _ _ _

/-- The queue after a removal at the head, with its head deadline (R35). -/
@[simp] theorem settleHead_tracking (missed rest : List TrackRecord) (s : State) :
    (settleHead missed rest s).tracking = { s.tracking with
      queue := rest.dropWhile (outlived s.belt.pos)
      headDeadline := headDeadlineOf (rest.dropWhile (outlived s.belt.pos)) } :=
  raiseAll_tracking _ _ _

/-- What a reached head deadline can do: the head leaves with its run, or nothing happens (R36). -/
theorem takeHead_cases (s : State) :
    takeHead s = s ∨ ∃ r rest, s.tracking.queue = r :: rest ∧ takeHead s = settleHead [r] rest s := by
  unfold takeHead expireHead
  split
  · split
    · exact .inl rfl
    · rename_i r rest waits
      exact .inr ⟨r, rest, waits, rfl⟩
  · exact .inl rfl

theorem takeHead_offLane (s : State) : OffLane s (takeHead s) := by
  rcases takeHead_cases s with e | ⟨r, rest, -, e⟩ <;> rw [e]
  · exact .refl s
  · exact settleHead_offLane _ _ s

theorem takeFire_offLane (s : State) : OffLane s (takeFire s) := by
  unfold takeFire
  split
  · exact ⟨rfl, rfl, rfl, id⟩
  · exact .refl s

theorem takeRelease_offLane (s : State) : OffLane s (takeRelease s) := by
  unfold takeRelease
  split
  · exact ⟨rfl, rfl, rfl, id⟩
  · exact .refl s

/-! ### Ends of gates and phases -/

theorem gateOver_offLane (s : State) : OffLane s (gateOver s) := by
  have ended : OffLane s { s with belt := { s.belt with
      speed := s.belt.acc, acc := 0, timer := 0, state := beltStateOf s.belt.acc } } := ⟨rfl, rfl, rfl, id⟩
  unfold gateOver gateEnds
  dsimp only
  split
  · exact .refl s
  · split
    · exact ended.trans (raise_offLane _ _ _)
    · exact ended.trans (raise_offLane _ _ _)
    · exact ended
    · exact ended

theorem enterFault_offLane (detail ran : Nat) (s : State) : OffLane s (enterFault detail ran s) :=
  OffLane.trans (t := { s with diverter := { s.diverter with
      state := .fault, phase := none, fire := none, release := none, clear := none, flag := false } })
    ⟨rfl, rfl, rfl, id⟩ (raise_offLane _ _ _)

theorem homeReads_offLane (home : Bool) (s : State) : OffLane s (homeReads home s) := ⟨rfl, rfl, rfl, id⟩

theorem throwOver_offLane (home : Bool) (s : State) : OffLane s (throwOver home s) := by
  unfold throwOver throwEnds
  dsimp only
  split
  · exact homeReads_offLane home s
  · split
    · exact (homeReads_offLane home s).trans (enterFault_offLane _ _ _)
    · exact ⟨rfl, rfl, rfl, id⟩

theorem returnOver_offLane (home : Bool) (s : State) : OffLane s (returnOver home s) := by
  unfold returnOver returnEnds
  dsimp only
  split
  · exact homeReads_offLane home s
  · split
    · exact ⟨rfl, rfl, rfl, id⟩
    · split
      · exact (homeReads_offLane home s).trans (enterFault_offLane _ _ _)
      · exact ⟨rfl, rfl, rfl, id⟩

theorem homeBecomesActive_offLane (s : State) : OffLane s (homeBecomesActive s) := by
  unfold homeBecomesActive
  dsimp only
  split <;> exact ⟨rfl, rfl, rfl, id⟩

theorem homeWaitOver_offLane (s : State) : OffLane s (homeWaitOver s) := by
  unfold homeWaitOver
  split
  · exact .refl s
  · exact enterFault_offLane _ _ s

/-! ### The link and the transmitter -/

theorem followLos_offLane (s : State) : OffLane s (followLos s) := by
  unfold followLos
  dsimp only
  split
  · exact .refl s
  · exact OffLane.trans (t := { s with line := { s.line with link := linkOfLos s.pins.los } }) ⟨rfl, rfl, rfl, id⟩
      (raise_offLane _ _ _)

theorem losTakes_offLane (level partly : Bool) (s : State) : OffLane s (losTakes level partly s) := by
  unfold losTakes
  dsimp only
  split
  · exact ⟨rfl, rfl, rfl, id⟩
  · have followed := followLos_offLane
    refine ⟨(followed _).lane, (followed _).counter, (followed _).admission, fun b => (followed _).port ?_⟩
    have counted : PortBounded (if level && partly && takesFrames s then countError s.line else s.line) := by
      split <;> exact b
    exact counted

theorem idleSeen_offLane (s : State) : OffLane s (idleSeen s) := by
  unfold idleSeen
  split <;> exact ⟨rfl, rfl, rfl, id⟩

theorem transmitterIdle_offLane (s : State) : OffLane s (transmitterIdle s) := by
  unfold transmitterIdle
  split
  · exact .refl s
  · exact ⟨rfl, rfl, rfl, fun b => arbitrate_bounded b⟩

theorem pinAsserted_offLane (s : State) : OffLane s (pinAsserted s) := by
  unfold pinAsserted
  split <;> exact ⟨rfl, rfl, rfl, id⟩

end Sys2Proof.Machine
end

section
/-! SUPPORT. The reservation table under its operations: the trim takes zones from the newest entries on, an expiry or a use takes entries
away; none of them brings an entry or more reserved zones (R79, R87, R88). -/

namespace Sys2Proof.Machine

/-- The reserved zones of a table (R70). -/
def zonesOf (table : List Reservation) : Nat := (table.map (·.zones)).sum

theorem reserved_eq (a : Admission) : reserved a = zonesOf a.table := rfl

@[simp] theorem zonesOf_nil : zonesOf [] = 0 := rfl

@[simp] theorem zonesOf_cons (r : Reservation) (rs : List Reservation) : zonesOf (r :: rs) = r.zones + zonesOf rs := by
  simp [zonesOf]

@[simp] theorem zonesOf_append (a b : List Reservation) : zonesOf (a ++ b) = zonesOf a + zonesOf b := by
  simp [zonesOf]

@[simp] theorem zonesOf_reverse (a : List Reservation) : zonesOf a.reverse = zonesOf a := by
  simp [zonesOf, List.sum_reverse]

/-! ### The trim -/

/-- The trim removes the newest entries and reduces at most the newest of those left (R88). -/
theorem trimEntries_shape (n : Nat) (table : List Reservation) :
    ∃ rest, table = (trimEntries n table).2 ++ rest ∧
      ((trimEntries n table).1 = rest ∨
        ∃ r rs m, rest = r :: rs ∧ m < r.zones ∧ (trimEntries n table).1 = { r with zones := r.zones - m } :: rs) := by
  induction table generalizing n with
  | nil => exact ⟨[], rfl, .inl rfl⟩
  | cons r rs ih =>
    unfold trimEntries
    split
    · exact ⟨r :: rs, rfl, .inl rfl⟩
    · split
      · rename_i part
        exact ⟨r :: rs, rfl, .inr ⟨r, rs, n, rfl, part, rfl⟩⟩
      · obtain ⟨rest, split, left⟩ := ih (n - r.zones)
        exact ⟨rest, congrArg (r :: ·) split, left⟩

/-- The trim takes as many zones as it is told to, or all. -/
theorem trimEntries_zones (n : Nat) (table : List Reservation) :
    zonesOf (trimEntries n table).1 = zonesOf table - n := by
  induction table generalizing n with
  | nil => simp [trimEntries]
  | cons r rs ih =>
    unfold trimEntries
    split
    · simp_all
    · split
      · simp only [zonesOf_cons]
        omega
      · simp only [ih, zonesOf_cons]
        omega

/-- An entry that the trim leaves means that it took all it was told to. -/
theorem trimEntries_left {n : Nat} {table : List Reservation} (left : (trimEntries n table).1 ≠ []) : n ≤ zonesOf table := by
  induction table generalizing n with
  | nil => exact absurd rfl left
  | cons r rs ih =>
    unfold trimEntries at left
    rw [zonesOf_cons]
    split at left
    · omega
    · split at left
      · omega
      · have rest := ih left
        omega

/-- The entries that a trim leaves are entries of the table, the newest perhaps with fewer zones. -/
theorem trim_table (s : State) :
    (trim s).admission = { s.admission with
      table := (trimEntries (roomSum s - s.lane.zoneCount) s.admission.table.reverse).1.reverse } :=
  raiseAll_admission _ _ _

/-! ### Tables that lose entries and zones -/

/-- `b` comes from the table `a` by entries and zones taken away. -/
structure TableOnward (a b : List Reservation) : Prop where
  length : b.length ≤ a.length
  orders : (b.map (·.order)).Sublist (a.map (·.order))
  entries : ∀ r ∈ b, ∃ q ∈ a, r.order = q.order ∧ r.zones ≤ q.zones ∧ (1 ≤ q.zones → 1 ≤ r.zones)
  zones : zonesOf b ≤ zonesOf a

theorem TableOnward.of_sublist {a b : List Reservation} (h : b.Sublist a) : TableOnward a b where
  length := h.length_le
  orders := h.map _
  entries := fun r inB => ⟨r, h.subset inB, rfl, le_rfl, id⟩
  zones := List.Sublist.sum_le_sum (h.map _) fun _ _ => Nat.zero_le _

theorem TableOnward.refl (a : List Reservation) : TableOnward a a := .of_sublist (List.Sublist.refl a)

theorem TableOnward.trans {a b c : List Reservation} (h : TableOnward a b) (g : TableOnward b c) : TableOnward a c where
  length := g.length.trans h.length
  orders := g.orders.trans h.orders
  entries := by
    intro r inC
    obtain ⟨q, inB, order, fewer, one⟩ := g.entries r inC
    obtain ⟨p, inA, order', fewer', one'⟩ := h.entries q inB
    exact ⟨p, inA, order.trans order', fewer.trans fewer', fun first => one (one' first)⟩
  zones := g.zones.trans h.zones

/-- The reservation entries stay right as entries and zones go (R84). -/
theorem TableOnward.right {a b : Admission} (h : TableOnward a.table b.table) (right : ReservationsRight a) :
    ReservationsRight b := by
  obtain ⟨different, each⟩ := right
  refine ⟨different.sublist h.orders, fun r inB => ?_⟩
  obtain ⟨q, inA, order, fewer, one⟩ := h.entries r inB
  obtain ⟨numbered, low, high⟩ := each q inA
  exact ⟨order ▸ numbered, one low, fewer.trans high⟩

/-- Reducing the newest entry, the last of the table, takes zones away. -/
theorem TableOnward.of_reduced (rs : List Reservation) (r : Reservation) {m : Nat} (part : m < r.zones) :
    TableOnward (rs ++ [r]) (rs ++ [{ r with zones := r.zones - m }]) where
  length := by simp
  orders := by simp
  entries := by
    intro q inB
    rcases List.mem_append.mp inB with old | new
    · exact ⟨q, List.mem_append_left _ old, rfl, le_rfl, id⟩
    · obtain rfl := List.mem_singleton.mp new
      refine ⟨r, List.mem_append_right _ (List.mem_singleton_self r), rfl, ?_, fun _ => ?_⟩ <;> dsimp only <;> omega
  zones := by
    simp only [zonesOf_append, zonesOf_cons, zonesOf_nil]
    omega

theorem trim_tableOnward (s : State) : TableOnward s.admission.table (trim s).admission.table := by
  rw [trim_table]
  obtain ⟨rest, split, left⟩ := trimEntries_shape (roomSum s - s.lane.zoneCount) s.admission.table.reverse
  have kept : (rest.reverse).Sublist s.admission.table := by
    rw [← List.reverse_sublist, List.reverse_reverse, split]
    exact List.sublist_append_right _ rest
  rcases left with whole | ⟨r, rs, m, rfl, part, reduced⟩
  · rw [whole]
    exact .of_sublist kept
  · rw [reduced]
    rw [List.reverse_cons] at kept
    simpa only [List.reverse_cons] using (TableOnward.of_sublist kept).trans (.of_reduced rs.reverse r part)

/-- An entry after a use of an order: one zone fewer if it is the order's, and gone at 0 (R79). -/
def useOne (order : Ident) (r : Reservation) : Option Reservation :=
  if r.order = order then (if r.zones ≤ 1 then none else some { r with zones := r.zones - 1 }) else some r

theorem useReservation_table (order : Ident) (a : Admission) :
    (useReservation order a).table = a.table.filterMap (useOne order) := rfl

theorem useOne_some {order : Ident} {r q : Reservation} (h : useOne order r = some q) :
    q.order = r.order ∧ q.zones ≤ r.zones ∧ (1 ≤ r.zones → 1 ≤ q.zones) := by
  unfold useOne at h
  split_ifs at h <;> cases h
  · exact ⟨rfl, Nat.sub_le _ _, fun _ => by dsimp only; omega⟩
  · exact ⟨rfl, le_rfl, id⟩

theorem useOnes_tableOnward (order : Ident) (table : List Reservation) :
    TableOnward table (table.filterMap (useOne order)) := by
  induction table with
  | nil => exact .refl []
  | cons r rs ih =>
    cases used : useOne order r with
    | none =>
      rw [List.filterMap_cons_none used]
      exact (TableOnward.of_sublist (List.sublist_cons_self r rs)).trans ih
    | some q =>
      rw [List.filterMap_cons_some used]
      have same := useOne_some used
      refine ⟨Nat.succ_le_succ ih.length, ?_, ?_, ?_⟩
      · rw [List.map_cons, List.map_cons, same.1]
        exact ih.orders.cons_cons r.order
      · intro p inB
        rcases List.mem_cons.mp inB with rfl | later
        · exact ⟨r, List.mem_cons_self, same⟩
        · obtain ⟨q', inA, rest⟩ := ih.entries p later
          exact ⟨q', List.mem_cons_of_mem _ inA, rest⟩
      · rw [zonesOf_cons, zonesOf_cons]
        exact Nat.add_le_add same.2.1 ih.zones

/-- A use of an order that has an entry takes at least one reserved zone. -/
theorem useOnes_zones {order : Ident} {table : List Reservation} (kept : ∃ r ∈ table, r.order = order)
    (one : ∀ r ∈ table, 1 ≤ r.zones) : zonesOf (table.filterMap (useOne order)) + 1 ≤ zonesOf table := by
  induction table with
  | nil => simp at kept
  | cons r rs ih =>
    have first := one r List.mem_cons_self
    have rest := (useOnes_tableOnward order rs).zones
    rw [zonesOf_cons]
    by_cases same : r.order = order
    · by_cases last : r.zones ≤ 1
      · rw [List.filterMap_cons_none (by simp [useOne, same, last])]
        omega
      · rw [List.filterMap_cons_some (b := { r with zones := r.zones - 1 }) (by simp [useOne, same, last]), zonesOf_cons]
        dsimp only
        omega
    · obtain ⟨q, inTable, order'⟩ := kept
      have later : q ∈ rs := (List.mem_cons.mp inTable).resolve_left fun e => same (e ▸ order')
      have used := ih ⟨q, later, order'⟩ fun p inRest => one p (List.mem_cons_of_mem _ inRest)
      rw [List.filterMap_cons_some (b := r) (by simp [useOne, same]), zonesOf_cons]
      omega

end Sys2Proof.Machine
end

section
/-! SUPPORT. Events that only go onward: they take records, reservations, room and queue places away and keep every setting in its range.
All events do, but for the leading edge, the stray entry, a new tracking record, the setting asks and the resets. -/

namespace Sys2Proof.Machine

/-! ### The totes of the node -/

theorem mem_totesOf {s : State} {x : ToteFields} :
    x ∈ totesOf s ↔ (∃ r ∈ s.tracking.queue, r.tote = x) ∨ (∃ r, InLane s.lane r ∧ r.tote = x) ∨
      contextTote s.eye.context = some x := by
  have zones : (∃ z ∈ s.lane.zones.toList, z.record.map (·.tote) = some x) ↔
      ∃ r, (∃ k, 1 ≤ k ∧ (zone s.lane k).record = some r) ∧ r.tote = x := by
    constructor
    · rintro ⟨z, among, stands⟩
      obtain ⟨r, record, rfl⟩ := Option.map_eq_some_iff.mp stands
      obtain ⟨i, high, rfl⟩ := List.mem_iff_getElem.mp among
      rw [Vector.length_toList] at high
      refine ⟨r, ⟨i + 1, by omega, ?_⟩, rfl⟩
      rw [zone_eq_getElem _ (by omega) (by omega)]
      simpa using record
    · rintro ⟨r, ⟨k, low, record⟩, rfl⟩
      have high : k ≤ 8 := by
        by_contra beyond
        rw [zone_of_gt _ (by omega)] at record
        cases record
      rw [zone_eq_getElem _ low high] at record
      exact ⟨_, Vector.mem_toList_iff.mpr (Vector.getElem_mem (i := k - 1) (by omega)), by rw [record]; rfl⟩
  unfold totesOf
  simp only [List.mem_append, List.mem_map, List.mem_filterMap, Option.mem_toList, zones]
  constructor
  · rintro (((⟨r, inQueue, rfl⟩ | ⟨i, waits, rfl⟩) | ⟨r, stands, rfl⟩) | here)
    · exact .inl ⟨r, inQueue, rfl⟩
    · exact .inr (.inl ⟨i.record, .inr ⟨i, waits, rfl⟩, rfl⟩)
    · exact .inr (.inl ⟨r, .inl stands, rfl⟩)
    · exact .inr (.inr here)
  · rintro (⟨r, inQueue, rfl⟩ | ⟨r, stands | ⟨i, waits, rfl⟩, rfl⟩ | here)
    · exact .inl (.inl (.inl ⟨r, inQueue, rfl⟩))
    · exact .inl (.inr ⟨r, stands, rfl⟩)
    · exact .inl (.inl (.inr ⟨i, waits, rfl⟩))
    · exact .inr here

/-! ### The relation -/

/-- `t` comes from `s` by an event that only takes away. -/
structure Onward (s t : State) : Prop where
  zoneCount : t.lane.zoneCount = s.lane.zoneCount
  queue : t.tracking.queue <:+ s.tracking.queue
  context : contextTote t.eye.context = none ∨ contextTote t.eye.context = contextTote s.eye.context
  table : TableOnward s.admission.table t.admission.table
  inbound : t.lane.inbound.Sublist s.lane.inbound
  records : ∀ r, InLane t.lane r → InLane s.lane r
  room : held t.lane + t.lane.inbound.length ≤ held s.lane + s.lane.inbound.length
  port : PortBounded s.line → PortBounded t.line
  ranges : InRange s → InRange t

theorem Onward.refl (s : State) : Onward s s :=
  ⟨rfl, List.suffix_rfl, .inr rfl, .refl _, List.Sublist.refl _, fun _ h => h, le_rfl, id, id⟩

theorem Onward.trans {s t u : State} (h : Onward s t) (g : Onward t u) : Onward s u where
  zoneCount := g.zoneCount.trans h.zoneCount
  queue := g.queue.trans h.queue
  context := g.context.elim .inl fun same => same ▸ h.context
  table := h.table.trans g.table
  inbound := g.inbound.trans h.inbound
  records := fun r i => h.records r (g.records r i)
  room := g.room.trans h.room
  port := fun b => g.port (h.port b)
  ranges := fun r => g.ranges (h.ranges r)

theorem Onward.queuesBounded {s t : State} (h : Onward s t) (bounded : QueuesBounded s) : QueuesBounded t := by
  obtain ⟨queue, table, inbound, port⟩ := bounded
  exact ⟨h.queue.length_le.trans queue, h.table.length.trans table, h.inbound.length_le.trans inbound, h.port port⟩

theorem Onward.roomKept {s t : State} (h : Onward s t) (room : RoomKept s) : RoomKept t := by
  have zones := h.table.zones
  have lane := h.room
  simp only [RoomKept, roomSum, reserved_eq, h.zoneCount] at room ⊢
  omega

theorem Onward.totes {s t : State} (h : Onward s t) {x : ToteFields} (among : x ∈ totesOf t) : x ∈ totesOf s := by
  rw [mem_totesOf] at among ⊢
  rcases among with ⟨r, inQueue, same⟩ | ⟨r, stands, same⟩ | here
  · exact .inl ⟨r, h.queue.subset inQueue, same⟩
  · exact .inr (.inl ⟨r, h.records r stands, same⟩)
  · rcases h.context with none | same
    · rw [none] at here
      cases here
    · exact .inr (.inr (same ▸ here))

theorem Onward.totesInRange {s t : State} (h : Onward s t) (ranges : TotesInRange s) : TotesInRange t :=
  fun x among => ranges x (h.totes among)

/-! ### The lane's side -/

/-- A lane-side event keeps every setting, so all that it must keep in range is the discharge count. -/
theorem LaneSide.inRange {s t : State} (side : LaneSide s t) (count : s.counter.count ≤ 255 → t.counter.count ≤ 255)
    (h : InRange s) : InRange t := by
  obtain ⟨belt, eye, tracking, admission, geometry, lane, errors, few⟩ := h
  refine ⟨by rwa [side.belt], by rwa [side.eye], by rwa [side.tracking], ?_, by rwa [side.diverter], ?_, ?_, count few⟩
  · rwa [AdmissionInRange, side.refusalLimit, side.span]
  · rwa [LaneInRange, side.zoneCount, side.accepted, side.transferLimit, side.dischargeLimit, side.entryDistance]
  · rwa [side.port.errors]

theorem LaneOnward.onward {s t : State} (h : LaneOnward s t) : Onward s t where
  zoneCount := h.side.zoneCount
  queue := by rw [h.side.tracking]
  context := .inr (by rw [h.side.eye])
  table := by rw [h.admission]; exact .refl _
  inbound := h.inbound.sublist
  records := h.records
  room := h.room
  port := h.port
  ranges := h.side.inRange h.count

theorem takeReservations_onward (s : State) : Onward s (takeReservations s) := by
  unfold takeReservations
  split
  · refine Onward.trans (t := { s with admission := { s.admission with
        table := s.admission.table.filter fun r => r.expiry != s.belt.pos } }) ?_ ?_
    · exact ⟨rfl, List.suffix_rfl, .inr rfl, .of_sublist List.filter_sublist, List.Sublist.refl _, fun _ h => h, le_rfl, id, id⟩
    · have raised := raiseAll_offLane .reservationLapsed
        ((s.admission.table.filter fun r => r.expiry == s.belt.pos).map (lapsedNote s.belt.pos 0))
        { s with admission := { s.admission with table := s.admission.table.filter fun r => r.expiry != s.belt.pos } }
      exact (LaneOnward.of_same_lane (raiseAll_laneSide _ _ _) raised.lane raised.admission raised.port
        (by rw [raised.counter]; exact id)).onward
  · exact .refl s

theorem raiseAll_onward (k : NoteKind) (ns : List NoteBody) (s : State) : LaneOnward s (raiseAll k ns s) := by
  have raised := raiseAll_offLane k ns s
  exact .of_same_lane (raiseAll_laneSide _ _ _) raised.lane raised.admission raised.port (by rw [raised.counter]; exact id)

/-- Inbound records leave the list. -/
theorem inbound_onward (s : State) {inbound : List InboundRecord} (fewer : inbound.Sublist s.lane.inbound) :
    Onward s { s with lane := { s.lane with inbound := inbound } } where
  zoneCount := rfl
  queue := List.suffix_rfl
  context := .inr rfl
  table := .refl _
  inbound := fewer
  records := by
    rintro r (stands | ⟨i, waits, same⟩)
    · exact .inl stands
    · exact .inr ⟨i, fewer.subset waits, same⟩
  room := by
    have same : held { s.lane with inbound := inbound } = held s.lane := held_of_zones rfl rfl
    exact Nat.add_le_add same.le fewer.length_le
  port := id
  ranges := id

theorem takeEntries_onward (s : State) : Onward s (takeEntries s) := by
  unfold takeEntries
  split
  · exact ((inbound_onward s List.filter_sublist).trans (raiseAll_onward _ _ _).onward).trans (settleLane_onward _).onward
  · exact .refl s

/-- The trim takes reserved zones away (R88). -/
theorem trim_onward (s : State) : Onward s (trim s) where
  zoneCount := by rw [(trim_lane s).1]
  queue := by rw [(trim_laneSide s).tracking]
  context := .inr (by rw [(trim_laneSide s).eye])
  table := trim_tableOnward s
  inbound := by rw [(trim_lane s).1]
  records := by simp [(trim_lane s).1]
  room := by rw [(trim_lane s).1]
  port := fun b => raiseAll_bounded _ _ b
  ranges := (trim_laneSide s).inRange (by rw [(trim_lane s).2]; exact id)

/-! ### The belt's side -/

/-- An event off the lane's side that takes away from the tracking queue at most. -/
theorem OffLane.onward {s t : State} (off : OffLane s t) (queue : t.tracking.queue <:+ s.tracking.queue)
    (context : contextTote t.eye.context = none ∨ contextTote t.eye.context = contextTote s.eye.context)
    (ranges : InRange s → InRange t) : Onward s t where
  zoneCount := by rw [off.lane]
  queue := queue
  context := context
  table := by rw [off.admission]; exact .refl _
  inbound := by rw [off.lane]
  records := by simp [off.lane]
  room := by rw [off.lane]
  port := off.port
  ranges := ranges

/-- An event that keeps the deadline side's settings, with the eye's and the tracking settings in their ranges. -/
theorem DeadlineSide.inRange {s t : State} (side : DeadlineSide s t) (off : OffLane s t)
    (eye : EyeInRange s.eye → EyeInRange t.eye) (tracking : TrackingInRange s.tracking → TrackingInRange t.tracking)
    (h : InRange s) : InRange t := by
  obtain ⟨belt, eyeIn, trackingIn, admission, geometry, lane, errors, few⟩ := h
  refine ⟨by rwa [side.belt], eye eyeIn, tracking trackingIn, by rwa [off.admission], by rwa [side.geometry], by rwa [off.lane],
    ?_, by rwa [off.counter]⟩
  rwa [side.port.errors]

theorem confirmTrail_onward (s : State) : Onward s (confirmTrail s) :=
  (confirmTrail_offLane s).onward (by simp) (.inl (by simp [contextTote]))
    ((confirmTrail_deadlineSide s).inRange (confirmTrail_offLane s) (by rw [confirmTrail_eye]; exact id) (by simp))

theorem takeTrailing_onward (s : State) : Onward s (takeTrailing s) := by
  rcases takeTrailing_cases s with ⟨e, -⟩ | ⟨e, -⟩ <;> rw [e]
  · exact .refl s
  · exact confirmTrail_onward s

theorem takeBlocked_onward (s : State) : Onward s (takeBlocked s) := by
  rcases takeBlocked_cases s with e | ⟨e, -⟩ | ⟨d, -, e⟩ <;> rw [e]
  · exact .refl s
  · exact confirmTrail_onward s
  · exact (eyeBlocked_offLane d s).onward List.suffix_rfl (.inr rfl)
      (((deadlineSide_eye s _).trans (raise_laneSide _ _ _).deadlineSide).inRange (eyeBlocked_offLane d s) id id)

theorem settleHead_onward (missed rest : List TrackRecord) (s : State) (waits : rest <:+ s.tracking.queue) :
    Onward s (settleHead missed rest s) :=
  (settleHead_offLane missed rest s).onward
    (by rw [settleHead_tracking]; exact (List.dropWhile_suffix _).trans waits) (.inr (by rw [settleHead_eye]))
    ((settleHead_deadlineSide missed rest s).inRange (settleHead_offLane missed rest s) (by simp) (by simp))

theorem takeHead_onward (s : State) : Onward s (takeHead s) := by
  rcases takeHead_cases s with e | ⟨r, rest, waits, e⟩ <;> rw [e]
  · exact .refl s
  · exact settleHead_onward _ _ s (waits ▸ List.suffix_cons r rest)

/-- An event that changes the Diverter Drive, but not its descriptor. -/
theorem diverter_onward {s t : State} (off : OffLane s t) (side : DeadlineSide s t) (eye : t.eye = s.eye)
    (tracking : t.tracking = s.tracking) : Onward s t :=
  off.onward (by rw [tracking]) (.inr (by rw [eye])) (side.inRange off (by rw [eye]; exact id) (by rw [tracking]; exact id))

theorem takeFire_onward (s : State) : Onward s (takeFire s) := by
  refine diverter_onward (takeFire_offLane s) (takeFire_deadlineSide s) ?_ ?_ <;> (unfold takeFire; split <;> rfl)

theorem takeRelease_onward (s : State) : Onward s (takeRelease s) := by
  refine diverter_onward (takeRelease_offLane s) (takeRelease_deadlineSide s) ?_ ?_ <;> (unfold takeRelease; split <;> rfl)

theorem encTakes_onward (gateRuns level : Bool) (s : State) :
    Onward s { s with belt := encTakes gateRuns level s.belt } := by
  refine OffLane.onward ⟨rfl, rfl, rfl, id⟩ List.suffix_rfl (.inr rfl) ?_
  rintro ⟨⟨speed, acc⟩, rest⟩
  refine ⟨?_, rest⟩
  have bumped := bump_le Config.maxAccumulator s.belt.acc
  simp only [Config.maxAccumulator] at bumped
  unfold encTakes countEvent
  split_ifs <;> exact ⟨speed, by assumption⟩

theorem gateOver_onward (s : State) : Onward s (gateOver s) := by
  have other : (gateOver s).eye = s.eye ∧ (gateOver s).tracking = s.tracking ∧ (gateOver s).diverter = s.diverter ∧
      SamePort s.line (gateOver s).line ∧ (BeltInRange s.belt → BeltInRange (gateOver s).belt) := by
    unfold gateOver gateEnds
    dsimp only
    split
    · exact ⟨rfl, rfl, rfl, .refl _, id⟩
    · split
      · exact ⟨rfl, rfl, rfl, raise_samePort _ _ _, fun h => ⟨h.2, Nat.zero_le _⟩⟩
      · exact ⟨rfl, rfl, rfl, raise_samePort _ _ _, fun h => ⟨h.2, Nat.zero_le _⟩⟩
      · exact ⟨rfl, rfl, rfl, .refl _, fun h => ⟨h.2, Nat.zero_le _⟩⟩
      · exact ⟨rfl, rfl, rfl, .refl _, fun h => ⟨h.2, Nat.zero_le _⟩⟩
  obtain ⟨eye, tracking, diverter, port, belt⟩ := other
  have off := gateOver_offLane s
  refine off.onward (by rw [tracking]) (.inr (by rw [eye])) ?_
  rintro ⟨beltIn, eyeIn, trackingIn, admission, geometry, lane, errors, few⟩
  exact ⟨belt beltIn, by rwa [eye], by rwa [tracking], by rwa [off.admission], by rwa [diverter], by rwa [off.lane],
    by rwa [port.errors], by rwa [off.counter]⟩

/-- An event that changes the diverter, with the same descriptor, and the pins. -/
theorem diverterPins_onward (s : State) {d : Diverter} (pins : InputLevels) (same : d.geometry = s.diverter.geometry) :
    Onward s { s with diverter := d, pins := pins } := by
  refine OffLane.onward ⟨rfl, rfl, rfl, id⟩ List.suffix_rfl (.inr rfl) ?_
  rintro ⟨belt, eye, tracking, admission, geometry, rest⟩
  exact ⟨belt, eye, tracking, admission, same ▸ geometry, rest⟩

/-! ### Diverter operations keep the descriptor -/

@[simp] theorem enterArmed_geometry (now : Pos) (d : Diverter) : (enterArmed now d).geometry = d.geometry := by
  unfold enterArmed
  split
  · split <;> rfl
  · rfl

@[simp] theorem enterHolding_geometry (now : Pos) (d : Diverter) : (enterHolding now d).geometry = d.geometry := by
  unfold enterHolding
  dsimp only
  split
  · split <;> rfl
  · rfl

@[simp] theorem returnComplete_geometry (now : Pos) (d : Diverter) : (returnComplete now d).geometry = d.geometry := by
  unfold returnComplete
  split
  · exact enterArmed_geometry now d
  · rfl

@[simp] theorem commitVerdict_geometry (v : Verdict) (now : Pos) (d : Diverter) :
    (commitVerdict v now d).geometry = d.geometry := by
  unfold commitVerdict
  split
  · exact enterArmed_geometry now _
  all_goals rfl

/-! ### Ends of phases -/

theorem homeReads_onward (home : Bool) (s : State) : Onward s (homeReads home s) :=
  diverterPins_onward s { s.pins with home := home } rfl

theorem enterFault_onward (detail ran : Nat) (s : State) : Onward s (enterFault detail ran s) :=
  Onward.trans (diverterPins_onward s (d := { s.diverter with
    state := .fault, phase := none, fire := none, release := none, clear := none, flag := false }) s.pins rfl)
    (raise_onward _ _ _).onward

theorem throwOver_onward (home : Bool) (s : State) : Onward s (throwOver home s) := by
  unfold throwOver throwEnds
  dsimp only
  split
  · exact homeReads_onward home s
  · split
    · exact (homeReads_onward home s).trans (enterFault_onward _ _ _)
    · exact diverterPins_onward s { s.pins with home := home } (by simp)

theorem returnOver_onward (home : Bool) (s : State) : Onward s (returnOver home s) := by
  unfold returnOver returnEnds
  dsimp only
  split
  · exact homeReads_onward home s
  · split
    · exact diverterPins_onward s { s.pins with home := home } (by simp)
    · split
      · exact (homeReads_onward home s).trans (enterFault_onward _ _ _)
      · exact diverterPins_onward s { s.pins with home := home } rfl

theorem homeBecomesActive_onward (s : State) : Onward s (homeBecomesActive s) := by
  unfold homeBecomesActive
  dsimp only
  split
  · exact homeReads_onward true s
  · exact diverterPins_onward s { s.pins with home := true } (by simp)

theorem homeWaitOver_onward (s : State) : Onward s (homeWaitOver s) := by
  unfold homeWaitOver
  split
  · exact .refl s
  · exact enterFault_onward _ _ s

/-! ### The link, the transmitter and the queues -/

/-- An event of the Line Port, the pins and RESET_N. -/
theorem line_onward (s : State) {l : LinePort} (pins : InputLevels) (low : Bool) (port : PortBounded s.line → PortBounded l)
    (errors : s.line.errors ≤ 65535 → l.errors ≤ 65535) :
    Onward s { s with line := l, pins := pins, resetLow := low } := by
  refine OffLane.onward ⟨rfl, rfl, rfl, port⟩ List.suffix_rfl (.inr rfl) ?_
  rintro ⟨belt, eye, tracking, admission, geometry, lane, few, rest⟩
  exact ⟨belt, eye, tracking, admission, geometry, lane, errors few, rest⟩

theorem countError_errors (l : LinePort) : (countError l).errors ≤ 65535 := bump_le 65535 l.errors

theorem badFrame_onward (s : State) : Onward s (badFrame s) :=
  line_onward s s.pins s.resetLow id fun _ => countError_errors s.line

theorem followLos_onward (s : State) : Onward s (followLos s) := by
  unfold followLos
  dsimp only
  split
  · exact .refl s
  · exact (line_onward s (l := { s.line with link := linkOfLos s.pins.los }) s.pins s.resetLow id id).trans
      (raise_onward _ _ _).onward

theorem losTakes_onward (level partly : Bool) (s : State) : Onward s (losTakes level partly s) := by
  unfold losTakes
  dsimp only
  split
  · exact line_onward s (l := s.line) { s.pins with los := level } s.resetLow id id
  · refine (line_onward s { s.pins with los := level } s.resetLow (fun bounded => ?_) fun few => ?_).trans (followLos_onward _)
    · have counted : PortBounded (if level && partly && takesFrames s then countError s.line else s.line) := by
        split <;> exact bounded
      exact counted
    · have counted : (if level && partly && takesFrames s then countError s.line else s.line).errors ≤ 65535 := by
        split
        · exact countError_errors s.line
        · exact few
      exact counted

theorem idleSeen_onward (s : State) : Onward s (idleSeen s) := by
  unfold idleSeen
  split
  · exact line_onward s (l := { s.line with receiverReady := true }) s.pins s.resetLow id id
  · exact .refl s

theorem transmitterIdle_onward (s : State) : Onward s (transmitterIdle s) := by
  unfold transmitterIdle
  split
  · exact .refl s
  · refine line_onward s s.pins s.resetLow (fun bounded => arbitrate_bounded bounded) fun few => ?_
    rwa [(arbitrate_samePort _).errors]

theorem pinAsserted_onward (s : State) : Onward s (pinAsserted s) := by
  unfold pinAsserted
  split
  · exact .refl s
  · exact line_onward s (l := { s.line with sending := none }) s.pins true id id

theorem forwardFrame_onward (f : Frame) (s : State) : Onward s (forwardFrame f s) := by
  have off := forwardFrame_offLane f s
  exact (LaneOnward.of_same_lane (forwardFrame_laneSide f s) off.lane off.admission off.port (by rw [off.counter]; exact id)).onward

theorem offerHandOff_onward (f : Frame) (tag order : Ident) (lead : Pos) (s : State) :
    LaneOnward s (offerHandOff f tag order lead s) := by
  have off := offerHandOff_offLane f tag order lead s
  exact .of_same_lane (offerHandOff_laneSide f tag order lead s) off.lane off.admission off.port (by rw [off.counter]; exact id)

theorem queueAnswer_onward (f : Frame) (s : State) : Onward s (queueAnswer f s) := by
  have off := queueAnswer_offLane f s
  exact (LaneOnward.of_same_lane (queueAnswer_laneSide f s) off.lane off.admission off.port id).onward

/-! ### The button, the lamp and the tick -/

theorem buttonTakes_onward (level : Bool) (s : State) : Onward s (buttonTakes level s) := by
  have pins := diverterPins_onward s (d := s.diverter) { s.pins with relBtn := level } rfl
  have counter : ∀ c : Counter, c.count = s.counter.count →
      Onward s { s with pins := { s.pins with relBtn := level }, counter := c } := fun c same =>
    pins.trans (counter_onward { s with pins := { s.pins with relBtn := level } } (c := c) (by rw [same]; exact id)).onward
  unfold buttonTakes
  dsimp only
  split
  · exact pins
  · split
    · exact counter _ rfl
    · exact counter _ rfl
    · exact counter _ rfl
    all_goals exact pins

theorem waitLampOut_onward (s : State) : Onward s (waitLampOut s) := by
  unfold waitLampOut
  split
  · exact .refl s
  · exact (counter_onward s (c := { s.counter with waitTimer := none }) id).onward

/-- The zones after a tick: their timers count. -/
theorem zone_tickTimers (s : State) {k : Nat} (low : 1 ≤ k) :
    zone (tickTimers s).lane k = { zone s.lane k with timer := (zone s.lane k).timer.map Timer.next } :=
  zone_map (f := fun z => { z with timer := z.timer.map Timer.next }) rfl rfl low

theorem tickTimers_onward (s : State) : Onward s (tickTimers s) where
  zoneCount := rfl
  queue := List.suffix_rfl
  context := .inr rfl
  table := .refl _
  inbound := List.Sublist.refl _
  records := by
    rintro r (⟨k, low, stands⟩ | waits)
    · rw [zone_tickTimers s low] at stands
      exact .inl ⟨k, low, stands⟩
    · exact .inr waits
  room := by
    have same : held (tickTimers s).lane = held s.lane := held_congr rfl fun k low => by rw [zone_tickTimers s low]
    exact Nat.add_le_add_right same.le _
  port := id
  ranges := by
    rintro ⟨belt, eye, tracking, admission, geometry, lane, rest⟩
    exact ⟨belt, eye, tracking, admission, geometry, lane, rest⟩

/-! ### Zone eyes -/

/-- A change of a zone eye goes onward, but for a stray entry: a block at an EMPTY or FILLING zone 1 with no inbound record (R118). -/
theorem zoneEyeTakes_onward {k : Nat} (low : 1 ≤ k) (level : Bool) (s : State)
    (notStray : k = 1 → s.lane.inbound = [] → (zone s.lane 1).state = .held ∨ (zone s.lane 1).state = .passing) :
    Onward s (zoneEyeTakes k level s) := by
  have pin : Onward s (zeyeTakes k level s) := diverterPins_onward s (d := s.diverter)
    { s.pins with zeye := s.pins.zeye.setIfInBounds (k - 1) level } rfl
  unfold zoneEyeTakes
  dsimp only
  split
  · exact pin
  · refine pin.trans ?_
    unfold zoneChanged
    split
    · exact .refl _
    · refine LaneOnward.onward (LaneOnward.trans ?_ (settleLane_onward _))
      split
      · split
        · rename_i first
          unfold zone1Blocked
          split
          · rename_i state
            refine enterZone1_onward fun none => ?_
            rcases notStray first none with held | passing <;> simp_all
          · rename_i state
            refine enterZone1_onward fun none => ?_
            rcases notStray first none with held | passing <;> simp_all
          · exact jam_onward _ _ _ _
          · exact jam_onward _ _ _ _
        · exact zoneKBlocked_onward (by omega) _
      · exact zoneCleared_onward k _

end Sys2Proof.Machine
end

section
/-! SUPPORT. The events that bring something: the leading edge with its commitment, the stray entry, the rescan and the resets; and the
principle that a property which onward events keep needs to be shown for these and for the setting asks alone. -/

namespace Sys2Proof.Machine

/-! ### The principle -/

/-- Every event of the eye but a leading edge goes onward. -/
theorem eyeTakes_cases (level : Bool) (s : State) :
    Onward s (eyeTakes level s) ∨
      s.eye.state = .clear ∧ eyeTakes level s = leadingEdge { s with pins := { s.pins with eye := level } } := by
  have pin : Onward s { s with pins := { s.pins with eye := level } } :=
    diverterPins_onward s (d := s.diverter) { s.pins with eye := level } rfl
  have eye : ∀ e : Eye, e.context = s.eye.context → (EyeInRange s.eye → EyeInRange e) →
      Onward s { s with pins := { s.pins with eye := level }, eye := e } := by
    intro e context ranges
    refine OffLane.onward ⟨rfl, rfl, rfl, id⟩ List.suffix_rfl (.inr (by rw [context])) ?_
    rintro ⟨belt, eyeIn, rest⟩
    exact ⟨belt, ranges eyeIn, rest⟩
  unfold eyeTakes eyeChanged
  dsimp only
  split
  · exact .inl pin
  · split
    · rename_i clear _
      exact .inr ⟨clear, rfl⟩
    · exact .inl (eye _ rfl id)
    · exact .inl (eye _ rfl id)
    all_goals exact .inl pin

/-- A change of a zone eye goes onward, or is a stray entry, after which the lane advances (R118). -/
theorem zoneEyeTakes_cases {k : Nat} (low : 1 ≤ k) (level : Bool) (s : State) :
    Onward s (zoneEyeTakes k level s) ∨
      s.lane.inbound = [] ∧ ((zone s.lane 1).state = .empty ∨ (zone s.lane 1).state = .filling) ∧
        zoneEyeTakes k level s = settleLane (enterZone1 (zeyeTakes 1 level s)) := by
  by_cases onward : k = 1 → s.lane.inbound = [] → (zone s.lane 1).state = .held ∨ (zone s.lane 1).state = .passing
  · exact .inl (zoneEyeTakes_onward low level s onward)
  · simp only [Classical.not_imp, not_or] at onward
    obtain ⟨rfl, none, notHeld, notPassing⟩ := onward
    have pin : Onward s (zeyeTakes 1 level s) := diverterPins_onward s (d := s.diverter)
      { s.pins with zeye := s.pins.zeye.setIfInBounds (1 - 1) level } rfl
    unfold zoneEyeTakes
    dsimp only
    split
    · exact .inl pin
    · unfold zoneChanged
      split
      · exact .inl pin
      · split
        · simp only [if_true, zone1Blocked, zeyeTakes_lane]
          cases state : (zone s.lane 1).state <;> simp_all
        · exact .inl (pin.trans (LaneOnward.onward (LaneOnward.trans (zoneCleared_onward 1 _) (settleLane_onward _))))

/-- The node reset from the ask is that of the blocks, after the Line Port's and the Report Unit's own and the answer (R157). -/
theorem takeNodeReset_cases (answer : Option Frame) (s : State) :
    ∃ u, Onward s u ∧ takeNodeReset answer s = resetBlocks u := by
  have emptied : Onward s { s with
      report := resetReport .nodeReset s.report, line := { s.line with localQueue := [], credit := 0 } } :=
    OffLane.onward ⟨rfl, rfl, rfl, fun b => ⟨b.1, b.2.1, Nat.zero_le 8, Nat.zero_le 3⟩⟩ List.suffix_rfl (.inr rfl) id
  cases answer with
  | none => exact ⟨_, emptied, rfl⟩
  | some f => exact ⟨_, emptied.trans (queueAnswer_onward f _), rfl⟩

/-- The release of RESET_N is the node reset of the blocks, after the Line Port's and the Report Unit's own (R158). -/
theorem pinReleased_cases (s : State) :
    pinReleased s = s ∨ ∃ u, Onward s u ∧ pinReleased s = resetBlocks u := by
  unfold pinReleased
  dsimp only
  split
  · have emptied : Onward s { s with
        resetLow := false, report := resetReport .resetPin s.report, line := resetLine s.line } :=
      OffLane.onward ⟨rfl, rfl, rfl, fun b => ⟨b.1, b.2.1, Nat.zero_le 8, Nat.zero_le 3⟩⟩ List.suffix_rfl (.inr rfl) id
    refine .inr ⟨_, (emptied.trans (followLos_onward _)).trans ?_, rfl⟩
    exact line_onward _ _ _ (fun bounded => arbitrate_bounded bounded) fun few => by rwa [(arbitrate_samePort _).errors]
  · exact .inl rfl

theorem takePause_onward (s : State) : Onward s (takePause s).1 := by
  unfold takePause
  split
  · exact .refl s
  · exact .refl s
  · refine LaneOnward.onward (LaneOnward.trans (t := { s with
      lane := { s.lane with state := .paused }, counter := pauseTaken s.counter }) ?_ (evalReady_onward _))
    refine LaneOnward.of_same_records (by constructor <;> first | rfl | exact .refl _) (fun k _ => by rfl) rfl fun few => ?_
    unfold pauseTaken
    split
    · exact Nat.zero_le 255
    · exact few

/-- A lane state set in place of another. -/
theorem laneState_onward (s : State) (state : LaneState) : LaneOnward s { s with lane := { s.lane with state := state } } :=
  .of_same_records (by constructor <;> first | rfl | exact .refl _) (fun k _ => by rfl) rfl id

theorem takeResume_onward (s : State) : Onward s (takeResume s).1 := by
  unfold takeResume
  split
  · exact .refl s
  · exact .refl s
  · exact ((laneState_onward s .running).trans (evalReady_onward _)).onward

theorem clearDiverter_onward (s : State) : Onward s (clearDiverter s) := by
  unfold clearDiverter
  split
  · exact diverterPins_onward s s.pins rfl
  · exact .refl s

theorem onPlan_onward (f : RoutePlan → RoutePlan × Reply) (s : State) : Onward s (onPlan f s).1 :=
  OffLane.onward ⟨rfl, rfl, rfl, id⟩ List.suffix_rfl (.inr rfl) id

theorem report_onward (s : State) (r : Report) {l : LinePort} (port : PortBounded s.line → PortBounded l)
    (errors : s.line.errors ≤ 65535 → l.errors ≤ 65535) : Onward s { s with report := r, line := l } := by
  refine OffLane.onward ⟨rfl, rfl, rfl, port⟩ List.suffix_rfl (.inr rfl) ?_
  rintro ⟨belt, eye, tracking, admission, geometry, lane, few, rest⟩
  exact ⟨belt, eye, tracking, admission, geometry, lane, errors few, rest⟩

theorem takeClearFlags_onward (fs : List Byte) (s : State) : Onward s (takeClearFlags fs s).1 := by
  unfold takeClearFlags
  dsimp only
  split
  · refine report_onward s _ id fun few => ?_
    dsimp only
    split
    · exact Nat.zero_le _
    · exact few
  · exact .refl s

/-- A property that onward events keep is kept by every event when the events that bring something and the setting asks keep it. -/
theorem keptByEvents_of_onward {P : State → Prop} (onward : ∀ {s t}, P s → Onward s t → P t)
    (powerUp : ∀ enc levels s, P (powerUp enc levels s)) (resetBlocks : ∀ {s}, P s → P (resetBlocks s))
    (leadingEdge : ∀ {s}, P s → s.eye.state = .clear → P (leadingEdge s))
    (stray : ∀ {s}, P s → s.lane.inbound = [] → (zone s.lane 1).state = .empty ∨ (zone s.lane 1).state = .filling →
      P (enterZone1 s))
    (takeTote : ∀ {s}, P s → ∀ source payload, P (takeTote (normalise source payload) s))
    (setLine : ∀ {s}, P s → ∀ fs, P (takeLine fs s).1) (setLane : ∀ {s}, P s → ∀ fs, P (takeLane fs s).1)
    (setGeometry : ∀ {s}, P s → ∀ fs, P { s with diverter := (takeGeometry fs s.diverter).1 })
    (running : ∀ {s}, P s → P (rescanToRunning s)) : KeptByEvents P where
  pending h rest := onward h (OffLane.onward ⟨rfl, rfl, rfl, id⟩ List.suffix_rfl (.inr rfl) id)
  takeTrailing h := onward h (takeTrailing_onward _)
  takeBlocked h := onward h (takeBlocked_onward _)
  takeHead h := onward h (takeHead_onward _)
  takeReservations h := onward h (takeReservations_onward _)
  takeFire h := onward h (takeFire_onward _)
  takeRelease h := onward h (takeRelease_onward _)
  takeEntries h := onward h (takeEntries_onward _)
  powerUp _ enc levels := powerUp enc levels _
  pinAsserted h := onward h (pinAsserted_onward _)
  pinReleased {s} h := by
    rcases pinReleased_cases s with same | ⟨u, before, same⟩ <;> rw [same]
    · exact h
    · exact resetBlocks (onward h before)
  encTakes h gateRuns level := onward h (encTakes_onward gateRuns level _)
  gateOver h := onward h (gateOver_onward _)
  eyeTakes {s} h level := by
    rcases eyeTakes_cases level s with same | ⟨clear, same⟩
    · exact onward h same
    · rw [same]
      exact leadingEdge (onward h (diverterPins_onward s (d := s.diverter) { s.pins with eye := level } rfl)) clear
  throwOver h home := onward h (throwOver_onward home _)
  returnOver h home := onward h (returnOver_onward home _)
  homeBecomesActive h := onward h (homeBecomesActive_onward _)
  homeWaitOver h := onward h (homeWaitOver_onward _)
  zoneEyeTakes {s} h k low _ level := by
    rcases zoneEyeTakes_cases low level s with same | ⟨none, free, same⟩
    · exact onward h same
    · rw [same]
      have pin : Onward s (zeyeTakes 1 level s) := diverterPins_onward s (d := s.diverter)
        { s.pins with zeye := s.pins.zeye.setIfInBounds (1 - 1) level } rfl
      exact onward (stray (onward h pin) none free) (settleLane_onward _).onward
  transferRunsOut h k := onward h (transferRunsOut_onward k _).onward
  dischargeRunsOut h := onward h (dischargeRunsOut_onward _).onward
  buttonTakes h level := onward h (buttonTakes_onward level _)
  pressTaken h := onward h (pressTaken_onward _).onward
  waitLampOut h := onward h (waitLampOut_onward _)
  losTakes h level partly := onward h (losTakes_onward level partly _)
  idleSeen h := onward h (idleSeen_onward _)
  transmitterIdle h := onward h (transmitterIdle_onward _)
  tickTimers h := onward h (tickTimers_onward _)
  badFrame h := onward h (badFrame_onward _)
  takeTote h source payload := takeTote h source payload
  position {s} h n := onward h (line_onward s (l := { s.line with position := n }) s.pins s.resetLow id id)
  forwardFrame h f := onward h (forwardFrame_onward f _)
  queueAnswer h f := onward h (queueAnswer_onward f _)
  nodeReset {s} h answer := by
    obtain ⟨u, before, same⟩ := takeNodeReset_cases answer s
    rw [same]
    exact resetBlocks (onward h before)
  ask {s} h c fs _ notReset := by
    cases c <;> simp only [askEffect]
    case readStatus | readIdentity | readTracking | readLane | readReservations => exact h
    case setWindow | writeEntries | continueEntries | readEntries | continueRead | swapPlan | copyPlan =>
      exact onward h (onPlan_onward _ s)
    case setGeometry => exact setGeometry h fs
    case setLine => exact setLine h fs
    case setLane => exact setLane h fs
    case setReports => exact onward h (report_onward s _ (l := s.line) id id)
    case clearFlags => exact onward h (takeClearFlags_onward fs s)
    case clearFault =>
      have diverter : P (clearDiverter s) := onward h (clearDiverter_onward s)
      have lane : ∀ {u}, P u → P (clearLane u) := by
        intro u held
        unfold clearLane
        split
        · exact running held
        · exact held
      unfold takeClearFault
      dsimp only
      split
      · split <;> split
        · exact lane diverter
        · exact lane h
        · exact diverter
        · exact h
      · exact h
    case pauseLane => exact onward h (takePause_onward s)
    case resumeLane => exact onward h (takeResume_onward s)
    case release => exact onward h (takeReleaseAsk_onward s).onward
    case nodeReset => exact absurd rfl notReset

end Sys2Proof.Machine
end

section
/-! SUPPORT. What the leading edge, its commitment and the rescan come to: the match, the three ends of a decision, what an admission has
found, and the zones, lists and room of a rescan (R39, R71 to R82, R128). -/

namespace Sys2Proof.Machine

/-! ### The match and the ends of a decision -/

/-- A match raises UNKNOWN_TOTE, or takes the head from the queue with its run (R39 to R41). -/
theorem matchLead_cases (p : Pos) (s : State) :
    (∃ n, matchLead p s = (none, raise .unknownTote n s)) ∨
      ∃ r rest, s.tracking.queue = r :: rest ∧ matchLead p s = (some r.tote, settleHead [] rest s) := by
  unfold matchLead
  split
  · exact .inl ⟨_, rfl⟩
  · rename_i r rest waits
    split
    · exact .inr ⟨r, rest, waits, rfl⟩
    · exact .inl ⟨_, rfl⟩

theorem raisePassed_onward (k : PassKind) (t : ToteFields) (lead : Pos) (s : State) : LaneOnward s (raisePassed k t lead s) := by
  unfold raisePassed
  split
  · exact .refl s
  · exact .refl s
  · exact raise_onward _ _ s
  · exact raise_onward _ _ s

theorem raisePassed_offLane (k : PassKind) (t : ToteFields) (lead : Pos) (s : State) : OffLane s (raisePassed k t lead s) := by
  unfold raisePassed
  split
  · exact .refl s
  · exact .refl s
  · exact raise_offLane _ _ s
  · exact raise_offLane _ _ s

/-- A pass-type tote goes onward, or is CARRIED into the inbound list (R81, R82). -/
theorem passTote_cases (k : PassKind) (t : ToteFields) (lead : Pos) (s : State) :
    (LaneOnward s (passTote k t lead s).1 ∧ OffLane s (passTote k t lead s).1) ∨
      canCarry s.lane = true ∧ ∃ n, (passTote k t lead s).1 =
        settleLane (raise .crowded n (trim (appendInbound t true lead s))) := by
  unfold passTote crowdedTote
  dsimp only
  split
  · split
    · rename_i room
      exact .inr ⟨room, _, rfl⟩
    · exact .inl ⟨raise_onward _ _ s, raise_offLane _ _ s⟩
  · exact .inl ⟨(raisePassed_onward k t lead s).trans (offerHandOff_onward _ _ _ _ _),
      (raisePassed_offLane k t lead s).trans (offerHandOff_offLane _ _ _ _ _)⟩

/-- The three ends of a decision: the tote goes on, it is CARRIED, or its divert is committed (Table 5-3). -/
theorem decideTote_cases (m : Option ToteFields) (lead : Pos) (s : State) :
    (LaneOnward s (decideTote m lead s).1 ∧ OffLane s (decideTote m lead s).1) ∨
      (canCarry s.lane = true ∧ ∃ n, (decideTote m lead s).1 =
        settleLane (raise .crowded n (trim (appendInbound (m.getD anonymousFields) true lead s)))) ∨
      ∃ how, decision m s = .admitted how ∧ ((∃ fire, verdict lead s = .arm fire) ∨ verdict lead s = .join ∨
        ∃ fire, verdict lead s = .rethrow fire) ∧
        decideTote m lead s = (commitDivert (verdict lead s) how (m.getD anonymousFields) lead s, .diverted) := by
  have passed := fun k => passTote_cases k (m.getD anonymousFields) lead s
  unfold decideTote
  dsimp only
  split
  · exact (passed _).imp id .inl
  · exact (passed _).imp id .inl
  · exact (passed _).imp id .inl
  · rename_i how admitted
    unfold admitTote
    split <;> rename_i timing
    · exact (passed _).imp id .inl
    · exact (passed _).imp id .inl
    · exact .inr (.inr ⟨how, admitted, .inl ⟨_, timing⟩, by rw [timing]⟩)
    · exact .inr (.inr ⟨how, admitted, .inr (.inl timing), by rw [timing]⟩)
    · exact .inr (.inr ⟨how, admitted, .inr (.inr ⟨_, timing⟩), by rw [timing]⟩)

/-- A leading edge: the match goes onward to a node with the same P and lane, where the tote is decided, and the context is set (R16). -/
theorem leadingEdge_cases (s : State) :
    ∃ m u, (m = none ∨ ∃ r ∈ s.tracking.queue, m = some r.tote) ∧ Onward s u ∧ OffLane s u ∧
      leadingEdge s = { (decideTote m s.belt.pos u).1 with
        eye := { (decideTote m s.belt.pos u).1.eye with
          context := leadContext m s.belt.pos (decideTote m s.belt.pos u).2 } } := by
  have taken : Onward s { s with eye := leadTaken s.belt.pos s.eye } := by
    refine OffLane.onward ⟨rfl, rfl, rfl, id⟩ List.suffix_rfl (.inr rfl) ?_
    rintro ⟨belt, eye, rest⟩
    exact ⟨belt, eye, rest⟩
  have off : OffLane s { s with eye := leadTaken s.belt.pos s.eye } := ⟨rfl, rfl, rfl, id⟩
  rcases matchLead_cases s.belt.pos { s with eye := leadTaken s.belt.pos s.eye } with ⟨n, same⟩ | ⟨r, rest, waits, same⟩
  · refine ⟨none, _, .inl rfl, taken.trans (raise_onward .unknownTote n _).onward, off.trans (raise_offLane _ _ _), ?_⟩
    unfold leadingEdge
    dsimp only
    rw [same]
  · refine ⟨some r.tote, _, .inr ⟨r, ?_, rfl⟩, taken.trans (settleHead_onward [] rest _ ?_),
      off.trans (settleHead_offLane _ _ _), ?_⟩
    · rw [show s.tracking.queue = r :: rest from waits]
      exact List.mem_cons_self
    · rw [waits]
      exact List.suffix_cons r rest
    · unfold leadingEdge
      dsimp only
      rw [same]

/-! ### What an admission has found -/

/-- What the room test of an admission has found for its kind of reservation (R73, R75, R76). -/
def AdmitFits (how : Admit) (t : ToteFields) (s : State) : Prop :=
  match how with
  | .plain => 1 ≤ needed t → roomSum s + 1 ≤ s.lane.zoneCount
  | .onReservation => hasReservation t.order s.admission = true
  | .newReservation n => 1 ≤ n ∧ n + 1 = needed t ∧ s.admission.table.length < 4 ∧ t.order ≠ 0 ∧
      hasReservation t.order s.admission = false ∧ roomSum s + (n + 1) ≤ s.lane.zoneCount

theorem inboundFull_iff (l : Lane) : inboundFull l = true ↔ 4 ≤ l.inbound.length := decide_eq_true_iff

theorem inboundFull_eq_false_iff (l : Lane) : inboundFull l = false ↔ l.inbound.length < 4 := by
  rw [← Bool.not_eq_true, inboundFull_iff, not_le]

theorem roomFor_iff (n : Nat) (s : State) :
    roomFor n s = true ↔ entryReady s.lane = true ∧ n + roomSum s ≤ s.lane.zoneCount ∧ s.lane.inbound.length < 4 := by
  simp only [roomFor, Bool.and_eq_true, decide_eq_true_eq, Bool.not_eq_true', inboundFull_eq_false_iff]
  simp only [unreserved, and_assoc]
  refine and_congr_right fun _ => and_congr_left fun _ => ?_
  omega

theorem decideDivert_admitted {s : State} {how : Admit} (h : decideDivert s = .admitted how) :
    how = .plain ∧ roomFor 1 s = true := by
  refine ⟨decideDivert_eq_admitted h, ?_⟩
  unfold decideDivert at h
  split at h
  · assumption
  · cases h

theorem decideGroup_admitted {t : ToteFields} {s : State} {how : Admit} (h : decideGroup t s = .admitted how) :
    s.lane.inbound.length < 4 ∧ AdmitFits how t s := by
  unfold decideGroup at h
  split at h
  · rename_i kept
    split at h
    · cases h
    · rename_i room
      cases h
      exact ⟨(inboundFull_eq_false_iff _).mp (by simpa using room), kept⟩
  · rename_i free
    split at h
    · obtain ⟨rfl, room⟩ := decideDivert_admitted h
      obtain ⟨-, fits, list⟩ := (roomFor_iff 1 s).mp room
      exact ⟨list, fun _ => by omega⟩
    · rename_i numbered
      split_ifs at h with large full room several
      · cases h
        obtain ⟨-, fits, list⟩ := (roomFor_iff _ s).mp room
        simp only [Config.reservationDepth, not_and, not_le] at full
        simp only [not_or] at numbered
        exact ⟨list, by omega, by omega, full several, numbered.1, by simpa using free, by omega⟩
      · cases h
        obtain ⟨-, fits, list⟩ := (roomFor_iff _ s).mp room
        exact ⟨list, fun one => by omega⟩

/-- Steps 3 to 5 that pass have found the diverter in no fault and the lane not JAMMED (R72). -/
theorem declined_eq_none {t : ToteFields} {s : State} (h : declined t s = none) :
    s.diverter.state ≠ .fault ∧ s.lane.state ≠ .jammed := by
  unfold declined at h
  split_ifs at h with fault jammed
  exact ⟨fault, jammed⟩

/-- An admitted tote is a matched one; the diverter is not in FAULT, the lane not JAMMED, the inbound list has room, and the room test of its
reservation has passed. -/
theorem decision_admitted {m : Option ToteFields} {s : State} {how : Admit} (h : decision m s = .admitted how) :
    ∃ t, m = some t ∧ s.diverter.state ≠ .fault ∧ s.lane.state ≠ .jammed ∧ s.lane.inbound.length < 4 ∧ AdmitFits how t s := by
  unfold decision at h
  split at h
  · cases h
  · rename_i t
    have passes : ∀ {d : Decision}, (declined t s).getD d = .admitted how →
        s.diverter.state ≠ .fault ∧ s.lane.state ≠ .jammed ∧ d = .admitted how := by
      intro d decided
      cases tests : declined t s with
      | none =>
        obtain ⟨fault, jammed⟩ := declined_eq_none tests
        exact ⟨fault, jammed, by simpa [tests] using decided⟩
      | some e =>
        have admitted : e = .admitted how := by simpa [tests] using decided
        exact absurd (tests.trans (congrArg some admitted)) (declined_ne_admitted t s how)
    split at h
    · cases h
    · obtain ⟨fault, jammed, divert⟩ := passes h
      obtain ⟨rfl, room⟩ := decideDivert_admitted divert
      obtain ⟨-, fits, list⟩ := (roomFor_iff 1 s).mp room
      exact ⟨t, rfl, fault, jammed, list, fun _ => by omega⟩
    · obtain ⟨fault, jammed, group⟩ := passes h
      obtain ⟨list, fits⟩ := decideGroup_admitted group
      exact ⟨t, rfl, fault, jammed, list, fits⟩

theorem canCarry_iff (l : Lane) :
    canCarry l = true ↔ l.inbound.length < 4 ∧ held l + l.inbound.length < l.zoneCount := by
  simp [canCarry, inboundFull_eq_false_iff]

/-! ### The commitment -/

/-- The reservation part of a commitment leaves every block but the table, the flags and the Line Port alone. -/
theorem commitReservation_laneSide (how : Admit) (t : ToteFields) (lead : Pos) (s : State) :
    LaneSide s (commitReservation how t lead s) := by
  unfold commitReservation createReservation
  dsimp only
  split
  · exact .refl s
  · constructor <;> first | rfl | exact .refl _
  · split
    · exact raise_laneSide _ _ s
    · constructor <;> first | rfl | exact .refl _

/-- The table after the reservation part of a commitment: as it was, with a zone of the order used, or with a new entry (R79). -/
theorem commitReservation_cases (how : Admit) (t : ToteFields) (lead : Pos) (s : State) :
    (commitReservation how t lead s).lane = s.lane ∧ (commitReservation how t lead s).counter = s.counter ∧
      (PortBounded s.line → PortBounded (commitReservation how t lead s).line) ∧
      ((commitReservation how t lead s).admission = s.admission ∧ how ≠ .onReservation ∨
        how = .onReservation ∧ (commitReservation how t lead s).admission = useReservation t.order s.admission ∨
        ∃ n, how = .newReservation n ∧ (commitReservation how t lead s).admission =
          { s.admission with table := s.admission.table ++ [⟨t.order, n, plus lead s.admission.span⟩] }) := by
  unfold commitReservation createReservation
  dsimp only
  split
  · exact ⟨rfl, rfl, id, .inl ⟨rfl, nofun⟩⟩
  · exact ⟨rfl, rfl, id, .inr (.inl ⟨rfl, rfl⟩)⟩
  · rename_i n
    split
    · exact ⟨rfl, rfl, raise_bounded _ _, .inl ⟨rfl, nofun⟩⟩
    · exact ⟨rfl, rfl, id, .inr (.inr ⟨n, rfl, rfl⟩)⟩

/-! ### The rescan -/

/-- A zone of the lane after the zones were set from their eyes (R128). -/
theorem zone_rescanZones (s : State) {k : Nat} (low : 1 ≤ k) (high : k ≤ 8) :
    zone (rescanZones s) k =
      if k ≤ s.lane.zoneCount then rescanZone (zoneBlocked s k) (zone s.lane k) else emptyZone := by
  have place : k - 1 + 1 = k := by omega
  rw [zone_eq_getElem _ low high]
  simp only [rescanZones, Vector.getElem_ofFn, place]
  split <;> split <;> first | rfl | omega

theorem dropExcess_cases (s : State) :
    dropExcess s = s ∧ s.admission.table ≠ [] ∨
      s.admission.table = [] ∧ dropExcess s = raiseAll .entryMissed
        ((s.lane.inbound.take (held s.lane + s.lane.inbound.length - s.lane.zoneCount)).map (missedEntryNote s.belt.pos 1))
        { s with lane := { s.lane with
            inbound := s.lane.inbound.drop (held s.lane + s.lane.inbound.length - s.lane.zoneCount) } } := by
  unfold dropExcess
  split
  · rename_i none
    exact .inr ⟨List.isEmpty_iff.mp none, rfl⟩
  · rename_i some
    exact .inl ⟨rfl, fun none => some (List.isEmpty_iff.mpr none)⟩

theorem dropExcess_onward (s : State) : Onward s (dropExcess s) := by
  rcases dropExcess_cases s with ⟨same, -⟩ | ⟨-, same⟩ <;> rw [same]
  · exact .refl s
  · exact (inbound_onward s (List.drop_sublist _ _)).trans (raiseAll_onward _ _ _).onward

/-- From the zones as set from their eyes the rescan goes onward. -/
theorem rescan_onward (s : State) : Onward { s with lane := rescanZones s } (rescan s) :=
  (trim_onward _).trans (dropExcess_onward _)

/-- After a trim an entry is left only where held + inbound + reserved is at most Z. -/
theorem roomKept_of_trim_left {s : State} (left : (trim s).admission.table ≠ []) : RoomKept (trim s) := by
  have sum := trimEntries_zones (roomSum s - s.lane.zoneCount) s.admission.table.reverse
  rw [trim_table] at left
  have enough := trimEntries_left (fun none => left (by simp [none]) :
    (trimEntries (roomSum s - s.lane.zoneCount) s.admission.table.reverse).1 ≠ [])
  simp only [zonesOf_reverse] at sum enough
  simp only [RoomKept, roomSum, reserved_eq, trim_table, (trim_lane s).1, zonesOf_reverse] at *
  omega

/-- A trim makes the room that held + inbound leave (R88). -/
theorem roomKept_of_trim {s : State} (fits : held s.lane + s.lane.inbound.length ≤ s.lane.zoneCount) : RoomKept (trim s) := by
  have sum := trimEntries_zones (roomSum s - s.lane.zoneCount) s.admission.table.reverse
  simp only [zonesOf_reverse] at sum
  simp only [RoomKept, roomSum, reserved_eq, trim_table, (trim_lane s).1, zonesOf_reverse] at *
  omega

/-- The rescan keeps the room: what the trim cannot give, the removals from the inbound list do (R128). -/
theorem rescan_roomKept (s : State) : RoomKept (rescan s) := by
  have zones := held_le (trim { s with lane := rescanZones s }).lane
  unfold rescan
  rcases dropExcess_cases (trim { s with lane := rescanZones s }) with ⟨same, left⟩ | ⟨none, same⟩
  · rw [same]
    exact roomKept_of_trim_left left
  · have fewer : ∀ n, held { (trim { s with lane := rescanZones s }).lane with
        inbound := (trim { s with lane := rescanZones s }).lane.inbound.drop n } =
          held (trim { s with lane := rescanZones s }).lane := fun n => held_of_zones rfl rfl
    rw [same]
    simp only [RoomKept, roomSum, raiseAll_lane, raiseAll_admission, reserved_eq, none, zonesOf_nil, List.length_drop, fewer]
    omega

/-- A record of a rescanned lane is one that stood there, or an anonymous one. -/
theorem inLane_rescanZones {s : State} {r : LaneRecord} (h : InLane (rescanZones s) r) :
    InLane s.lane r ∨ r = anonymousRecord := by
  rcases h with ⟨k, low, stands⟩ | waits
  · rcases Nat.lt_or_ge 8 k with high | high
    · rw [zone_of_gt _ high] at stands
      cases stands
    · rw [zone_rescanZones s low high] at stands
      unfold rescanZone at stands
      split_ifs at stands
      · cases old : (zone s.lane k).record with
        | none =>
          rw [old] at stands
          exact .inr (Option.some.inj stands).symm
        | some q =>
          rw [old] at stands
          exact .inl (.inl ⟨k, low, old.trans stands⟩)
      all_goals cases stands
  · exact .inl (.inr waits)

/-- After the rescan the lane goes onward: the lamp, a WAITING release and the lane's own rules (R128, R132). -/
theorem rescanInPlace_onward (s : State) : LaneOnward (rescan s) (rescanInPlace s) := by
  unfold rescanInPlace
  dsimp only
  refine LaneOnward.trans ?_ (settleLane_onward _)
  split
  · exact (evalReady_onward _).trans (zoneZHeld_onward _)
  · exact evalReady_onward _

theorem rescanToRunning_onward (s : State) : LaneOnward (rescan s) (rescanToRunning s) := by
  unfold rescanToRunning
  dsimp only
  exact ((laneState_onward _ .running).trans (evalReady_onward _)).trans (settleLane_onward _)

end Sys2Proof.Machine
end

section
/-! SUPPORT. The setting asks for the line and the lane, and the entry of a tote into the inbound list, as events: which of their parts
go onward. -/

namespace Sys2Proof.Machine

/-! ### SET LINE -/

/-- A new eye polarity ends the tote at the eye and reads the eye anew: it goes onward (R26). -/
theorem polarityChanged_onward (s : State) : Onward s (polarityChanged s) := by
  have sampled : ∀ (t : State) (now : Pos) (level : Bool), Onward t { t with eye := sampledEye now level t.eye } := by
    intro t now level
    refine OffLane.onward ⟨rfl, rfl, rfl, id⟩ List.suffix_rfl (.inl ?_) ?_
    · unfold sampledEye
      dsimp only
      split <;> rfl
    · rintro ⟨belt, eye, rest⟩
      refine ⟨belt, ?_, rest⟩
      unfold sampledEye
      dsimp only
      split <;> exact eye
  have delivered : ∀ trail, Onward s (deliverTrail trail s) := by
    intro trail
    have off := deliverTrail_offLane trail s
    have side := deliverTrail_deadlineSide trail s
    rw [deliverTrail_eq] at off side ⊢
    exact diverter_onward off side rfl rfl
  unfold polarityChanged
  dsimp only
  split
  · exact (delivered _).trans (sampled _ _ _)
  · exact sampled s _ _

/-- SET LINE is refused, or its settings are taken and a new polarity ends the tote at the eye (R164). -/
theorem takeLine_cases (fs : List Byte) (s : State) :
    (takeLine fs s).1 = s ∨ ∃ edge gate polarity, (takeLine fs s).1 = lineSettings fs edge gate polarity s ∨
      (takeLine fs s).1 = polarityChanged (lineSettings fs edge gate polarity s) := by
  unfold takeLine
  split
  · rename_i edge gate polarity _ _ _
    refine .inr ⟨edge, gate, polarity, ?_⟩
    dsimp only
    split
    · exact .inl rfl
    · exact .inr rfl
  · exact .inl rfl

/-- A property that the settings of SET LINE and onward events keep is kept by SET LINE. -/
theorem takeLine_keeps {P : State → Prop} (onward : ∀ {s t}, P s → Onward s t → P t) {s : State} (h : P s) (fs : List Byte)
    (settings : ∀ edge gate polarity, P (lineSettings fs edge gate polarity s)) : P (takeLine fs s).1 := by
  rcases takeLine_cases fs s with same | ⟨edge, gate, polarity, same | same⟩ <;> rw [same]
  · exact h
  · exact settings edge gate polarity
  · exact onward (settings edge gate polarity) (polarityChanged_onward _)

/-! ### SET LANE -/

/-- The lane with the settings of a SET LANE, all its zones EMPTY under a new Z (R131). -/
def newLane (fs : List Byte) (mode : ReleaseMode) (polarity : EyePolarity) (l : Lane) : Lane :=
  laneSettings fs mode polarity (newZoneCount (field1 fs 0) l)

@[simp] theorem newLane_inbound (fs : List Byte) (mode : ReleaseMode) (polarity : EyePolarity) (l : Lane) :
    (newLane fs mode polarity l).inbound = l.inbound := by
  unfold newLane laneSettings newZoneCount
  split <;> rfl

@[simp] theorem newLane_state (fs : List Byte) (mode : ReleaseMode) (polarity : EyePolarity) (l : Lane) :
    (newLane fs mode polarity l).state = l.state := by
  unfold newLane laneSettings newZoneCount
  split <;> rfl

@[simp] theorem newLane_zoneCount (fs : List Byte) (mode : ReleaseMode) (polarity : EyePolarity) (l : Lane) :
    (newLane fs mode polarity l).zoneCount = field1 fs 0 := rfl

/-- Under the Z in force the zones stand. -/
theorem zone_newLane_same {fs : List Byte} {l : Lane} (same : l.zoneCount = field1 fs 0) (mode : ReleaseMode)
    (polarity : EyePolarity) (k : Nat) : zone (newLane fs mode polarity l) k = zone l k := by
  simp [newLane, newZoneCount, same, laneSettings, zone]

/-- Under a new Z every zone is EMPTY. -/
theorem zone_newLane_other {fs : List Byte} {l : Lane} (other : l.zoneCount ≠ field1 fs 0) (mode : ReleaseMode)
    (polarity : EyePolarity) (k : Nat) : zone (newLane fs mode polarity l) k = emptyZone := by
  have zones : (newLane fs mode polarity l).zones = Vector.replicate 8 emptyZone := by
    simp [newLane, newZoneCount, other, laneSettings]
  rw [zone, zones]
  by_cases inside : k - 1 < 8 <;> simp [Vector.getD, inside]

theorem inLane_newLane {fs : List Byte} {mode : ReleaseMode} {polarity : EyePolarity} {l : Lane} {r : LaneRecord}
    (h : InLane (newLane fs mode polarity l) r) : InLane l r := by
  rcases h with ⟨k, low, stands⟩ | waits
  · by_cases same : l.zoneCount = field1 fs 0
    · rw [zone_newLane_same same] at stands
      exact .inl ⟨k, low, stands⟩
    · rw [zone_newLane_other same] at stands
      cases stands
  · rw [newLane_inbound] at waits
    exact .inr waits

/-- SET LANE is refused, or its settings are taken: the trim follows with the polarity kept or in JAMMED, the rescan otherwise (R131, R132). -/
theorem takeLane_cases (fs : List Byte) (s : State) :
    (takeLane fs s).1 = s ∨ ∃ mode polarity, laneStructure fs = true ∧ laneBusy fs s.lane = false ∧
      ((polarity = s.lane.polarity ∨ s.lane.state = .jammed) ∧
          (takeLane fs s).1 = settleLane (evalReady (trim { s with lane := newLane fs mode polarity s.lane })) ∨
        (polarity ≠ s.lane.polarity ∧ s.lane.state ≠ .jammed) ∧
          (takeLane fs s).1 = lanePolarityChanged { s with lane := newLane fs mode polarity s.lane }) := by
  unfold takeLane
  split
  · rename_i mode polarity _ _
    split
    · exact .inl rfl
    · rename_i structured
      split
      · exact .inl rfl
      · rename_i busy
        refine .inr ⟨mode, polarity, by simpa using structured, by simpa using busy, ?_⟩
        dsimp only [applyLane]
        split
        · rename_i stands
          exact .inl ⟨stands, rfl⟩
        · rename_i changes
          exact .inr ⟨not_or.mp changes, rfl⟩
  · exact .inl rfl

/-- A new lane polarity outside JAMMED: the timers stop and a discharge is cancelled, which goes onward, and then the rescan (R132). -/
theorem lanePolarityChanged_cases (s : State) :
    ∃ u, LaneOnward s u ∧ u.lane = stopTimers s.lane ∧ lanePolarityChanged s = rescanInPlace u := by
  refine ⟨_, ?_, rfl, rfl⟩
  refine LaneOnward.of_same_records (by constructor <;> first | rfl | exact .refl _)
    (fun k low => by rw [zone_stopTimers s.lane low]) rfl fun few => ?_
  split
  · exact Nat.zero_le 255
  · exact few

/-- The structure of a SET LANE gives a Z from 2 to 8 and a set of classes that is not empty (R131). -/
theorem laneStructure_iff (fs : List Byte) :
    laneStructure fs = true ↔ 2 ≤ field1 fs 0 ∧ field1 fs 0 ≤ 8 ∧ 1 ≤ field1 fs 1 ∧ field1 fs 1 ≤ 15 := by
  simp [laneStructure, and_assoc]

/-- A SET LANE that is not refused as busy keeps Z and the classes, or finds no record in the lane (R131). -/
theorem laneBusy_eq_false {fs : List Byte} {l : Lane} (h : laneBusy fs l = false) :
    (field1 fs 0 = l.zoneCount ∧ field1 fs 1 = l.accepted.toNat) ∨ held l = 0 ∧ l.inbound = [] := by
  by_cases same : field1 fs 0 = l.zoneCount ∧ field1 fs 1 = l.accepted.toNat
  · exact .inl same
  · have changes : field1 fs 0 ≠ l.zoneCount ∨ field1 fs 1 ≠ l.accepted.toNat := Decidable.not_and_iff_or_not.mp same
    exact .inr (by simpa [laneBusy, changes] using h)

/-! ### The inbound list -/

/-- An inbound record is appended, within the depth of the list. -/
theorem appendInbound_length (t : ToteFields) (carried : Bool) (lead : Pos) (s : State) :
    (appendInbound t carried lead s).lane.inbound.length = s.lane.inbound.length + 1 := by
  simp [appendInbound]

theorem inLane_appendInbound {t : ToteFields} {carried : Bool} {lead : Pos} {s : State} {r : LaneRecord}
    (h : InLane (appendInbound t carried lead s).lane r) : InLane s.lane r ∨ r = ⟨t, carried⟩ := by
  rcases h with stands | ⟨i, waits, rfl⟩
  · exact .inl (.inl stands)
  · rcases List.mem_append.mp waits with old | new
    · exact .inl (.inr ⟨i, old, rfl⟩)
    · rw [List.mem_singleton.mp new]
      exact .inr rfl

theorem held_appendInbound (t : ToteFields) (carried : Bool) (lead : Pos) (s : State) :
    held (appendInbound t carried lead s).lane = held s.lane := held_of_zones rfl rfl

end Sys2Proof.Machine
end

section
/-! SUPPORT. The depths of the queues, the ranges of settings and totes, and the room of the lane: each kept by the events that bring
something, and with the onward events by every step. -/

namespace Sys2Proof.Machine

/-! ### The depths of the queues -/

theorem queuesBounded_appendInbound {s : State} (h : QueuesBounded s) (room : s.lane.inbound.length < 4) (t : ToteFields)
    (carried : Bool) (lead : Pos) : QueuesBounded (appendInbound t carried lead s) := by
  obtain ⟨queue, table, -, port⟩ := h
  exact ⟨queue, table, by rw [appendInbound_length]; omega, port⟩

theorem queuesBounded_commitDivert {s : State} (h : QueuesBounded s) {m : Option ToteFields} {how : Admit}
    (admitted : decision m s = .admitted how) (v : Verdict) (t : ToteFields) (lead : Pos) :
    QueuesBounded (commitDivert v how t lead s) := by
  obtain ⟨_, -, -, -, list, fits⟩ := decision_admitted admitted
  have before := queuesBounded_appendInbound (s := { s with diverter := commitVerdict v s.belt.pos s.diverter }) h list t
    false lead
  refine (settleLane_onward _).onward.queuesBounded ?_
  generalize appended : appendInbound t false lead { s with diverter := commitVerdict v s.belt.pos s.diverter } = u at *
  obtain ⟨queue, table, inbound, port⟩ := before
  obtain ⟨lane, -, port', reservation⟩ := commitReservation_cases how t lead u
  refine ⟨by rwa [(commitReservation_laneSide how t lead u).tracking], ?_, by rwa [lane], port' port⟩
  rcases reservation with ⟨same, -⟩ | ⟨-, used⟩ | ⟨n, new, created⟩
  · rwa [same]
  · rw [used]
    exact (useOnes_tableOnward t.order u.admission.table).length.trans table
  · subst new appended
    obtain ⟨-, -, free, -⟩ := fits
    rw [created, List.length_append]
    exact free

theorem queuesBounded_decideTote {s : State} (h : QueuesBounded s) (m : Option ToteFields) (lead : Pos) :
    QueuesBounded (decideTote m lead s).1 := by
  rcases decideTote_cases m lead s with ⟨onward, -⟩ | ⟨carries, n, same⟩ | ⟨how, admitted, -, same⟩
  · exact onward.onward.queuesBounded h
  · rw [same]
    have appended := queuesBounded_appendInbound h ((canCarry_iff _).mp carries).1 (m.getD anonymousFields) true lead
    exact (((trim_onward _).trans (raise_onward _ n _).onward).trans (settleLane_onward _).onward).queuesBounded appended
  · rw [same]
    exact queuesBounded_commitDivert h admitted _ _ _

theorem queuesBounded_rescan {s : State} (h : QueuesBounded s) : QueuesBounded (rescan s) :=
  (rescan_onward s).queuesBounded h

/-- Every event keeps the depths of the queues and the limit of the credit count. -/
theorem queuesBounded_kept : KeptByEvents QueuesBounded := by
  refine keptByEvents_of_onward (fun h onward => onward.queuesBounded h) (powerUp := fun enc levels s => ?powerUp)
    (resetBlocks := fun h => ?resetBlocks) (leadingEdge := fun {s} h _ => ?leadingEdge) (stray := fun {s} h noInbound _ => ?stray)
    (takeTote := fun {s} h source payload => ?takeTote) (setLine := fun h fs => ?setLine) (setLane := fun {s} h fs => ?setLane)
    (setGeometry := fun h _ => h) (running := fun h => ?running)
  case powerUp =>
    unfold powerUp
    refine (rescanInPlace_onward _).onward.queuesBounded (queuesBounded_rescan ?_)
    simp [QueuesBounded, poweredOn, State.reset]
  case resetBlocks =>
    obtain ⟨queue, table, inbound, port⟩ := h
    unfold resetBlocks
    exact (rescanInPlace_onward _).onward.queuesBounded (queuesBounded_rescan
      ⟨Nat.zero_le 16, Nat.zero_le 4, Nat.zero_le 4, port⟩)
  case leadingEdge =>
    obtain ⟨m, u, -, before, -, same⟩ := leadingEdge_cases s
    rw [same]
    exact queuesBounded_decideTote (before.queuesBounded h) m s.belt.pos
  case stray =>
    unfold enterZone1
    split
    · simp_all
    · exact (((raise_onward _ _ _).onward.trans (trim_onward _)).trans (evalReady_onward _).onward).queuesBounded h
  case takeTote =>
    obtain ⟨queue, rest⟩ := h
    unfold takeTote
    dsimp only
    split
    · rename_i room
      simp only [Config.trackingDepth] at room
      exact ⟨by simp only [List.length_append, List.length_singleton]; omega, rest⟩
    · exact (raise_onward _ _ s).onward.queuesBounded ⟨queue, rest⟩
  case setLine => exact takeLine_keeps (fun h onward => onward.queuesBounded h) h fs fun _ _ _ => h
  case setLane =>
    rcases takeLane_cases fs s with same | ⟨mode, polarity, -, -, taken⟩
    · rwa [same]
    · have settings : QueuesBounded { s with lane := newLane fs mode polarity s.lane } := by
        simpa only [QueuesBounded, newLane_inbound] using h
      rcases taken with ⟨-, same⟩ | ⟨-, same⟩ <;> rw [same]
      · exact (((trim_onward _).trans (evalReady_onward _).onward).trans (settleLane_onward _).onward).queuesBounded settings
      · obtain ⟨u, stopped, -, same'⟩ := lanePolarityChanged_cases { s with lane := newLane fs mode polarity s.lane }
        rw [same']
        exact (rescanInPlace_onward _).onward.queuesBounded (queuesBounded_rescan (stopped.onward.queuesBounded settings))
  case running => exact (rescanToRunning_onward _).onward.queuesBounded (queuesBounded_rescan h)

/-- Settles O55: the events that bring something find room for it, and all others only take away. -/
theorem queuesStayBounded : Obligations.QueuesStayBounded := fun _ _ h e => queuesBounded_kept.step h e

/-! ### Totes in their ranges -/

/-- Normalisation brings the tote's numbers into their ranges (R31). -/
theorem toteInRange_normalise (source : Byte) (payload : List Byte) : ToteInRange (normalise source payload) := by
  simp only [ToteInRange, normalise, clamp]
  omega

theorem toteInRange_anonymous : ToteInRange anonymousFields := by decide

theorem totesInRange_iff {s : State} :
    TotesInRange s ↔ (∀ r ∈ s.tracking.queue, ToteInRange r.tote) ∧ (∀ r, InLane s.lane r → ToteInRange r.tote) ∧
      ∀ t, contextTote s.eye.context = some t → ToteInRange t := by
  simp only [TotesInRange, mem_totesOf]
  constructor
  · intro h
    exact ⟨fun r waits => h _ (.inl ⟨r, waits, rfl⟩), fun r stands => h _ (.inr (.inl ⟨r, stands, rfl⟩)),
      fun t here => h t (.inr (.inr here))⟩
  · rintro ⟨queue, lane, context⟩ x (⟨r, waits, rfl⟩ | ⟨r, stands, rfl⟩ | here)
    · exact queue r waits
    · exact lane r stands
    · exact context x here

/-- Totes stay in range when the lane's records do. -/
theorem totesInRange_of_lane {s t : State} (h : TotesInRange s) (tracking : t.tracking = s.tracking) (eye : t.eye = s.eye)
    (lane : ∀ r, InLane t.lane r → InLane s.lane r ∨ ToteInRange r.tote) : TotesInRange t := by
  rw [totesInRange_iff] at h ⊢
  obtain ⟨queue, records, context⟩ := h
  rw [tracking, eye]
  exact ⟨queue, fun r stands => (lane r stands).elim (records r) id, context⟩

theorem totesInRange_appendInbound {s : State} (h : TotesInRange s) {t : ToteFields} (range : ToteInRange t) (carried : Bool)
    (lead : Pos) : TotesInRange (appendInbound t carried lead s) :=
  totesInRange_of_lane h rfl rfl fun r stands => (inLane_appendInbound stands).imp id fun same => by rwa [same]

theorem totesInRange_decideTote {s : State} (h : TotesInRange s) {m : Option ToteFields} (range : ToteInRange (m.getD anonymousFields))
    (lead : Pos) : TotesInRange (decideTote m lead s).1 := by
  rcases decideTote_cases m lead s with ⟨onward, -⟩ | ⟨-, n, same⟩ | ⟨how, -, -, same⟩
  · exact onward.onward.totesInRange h
  · rw [same]
    have appended := totesInRange_appendInbound h range true lead
    exact (((trim_onward _).trans (raise_onward _ n _).onward).trans (settleLane_onward _).onward).totesInRange appended
  · rw [same]
    have appended := totesInRange_appendInbound
      (s := { s with diverter := commitVerdict (verdict lead s) s.belt.pos s.diverter }) h range false lead
    refine (settleLane_onward _).onward.totesInRange (totesInRange_of_lane appended
      (commitReservation_laneSide _ _ _ _).tracking (commitReservation_laneSide _ _ _ _).eye fun r stands => .inl ?_)
    rwa [(commitReservation_cases _ _ _ _).1] at stands

theorem totesInRange_rescan {s : State} (h : TotesInRange s) : TotesInRange (rescan s) :=
  (rescan_onward s).totesInRange (totesInRange_of_lane h rfl rfl fun _ stands =>
    (inLane_rescanZones stands).imp id fun same => by rw [same]; exact toteInRange_anonymous)

theorem totesInRange_poweredOn (enc : Bool) (levels : InputLevels) (pending : List Instr) :
    TotesInRange (poweredOn enc levels pending) := by
  have rest : TotesInRange State.reset := by decide +kernel
  rw [totesInRange_iff] at rest ⊢
  refine ⟨rest.1, rest.2.1, fun t here => ?_⟩
  simp only [poweredOn, sampledEye] at here
  split at here <;> cases here

/-- The blocks that a node reset has emptied keep the totes of the zones alone. -/
theorem totesInRange_emptied {s : State} (h : TotesInRange s) : TotesInRange { s with
    belt := resetBelt s.belt, eye := sampledEye s.belt.pos s.pins.eye s.eye, tracking := resetTracking s.tracking
    admission := resetAdmission s.admission, diverter := homeCheck s.diverter, lane := resetLane s.lane
    counter := resetCounter s.lane.mode s.pins.relBtn } := by
  rw [totesInRange_iff] at h ⊢
  refine ⟨nofun, ?_, fun t here => ?_⟩
  · rintro r (⟨k, low, stands⟩ | ⟨_, none, _⟩)
    · rw [show zone (resetLane s.lane) k = { zone s.lane k with timer := none } from zone_stopTimers s.lane low] at stands
      exact h.2.1 r (.inl ⟨k, low, stands⟩)
    · cases none
  · simp only [sampledEye] at here
    split at here <;> cases here

theorem totesInRange_leadingEdge {s : State} (h : TotesInRange s) : TotesInRange (leadingEdge s) := by
  obtain ⟨m, u, matched, before, -, same⟩ := leadingEdge_cases s
  have range : ToteInRange (m.getD anonymousFields) ∧ ∀ t, m = some t → ToteInRange t := by
    rcases matched with rfl | ⟨r, waits, rfl⟩
    · exact ⟨toteInRange_anonymous, nofun⟩
    · have inQueue := (totesInRange_iff.mp h).1 r waits
      exact ⟨inQueue, fun t e => Option.some.inj e ▸ inQueue⟩
  have decided := totesInRange_decideTote (before.totesInRange h) range.1 s.belt.pos
  rw [same]
  rw [totesInRange_iff] at decided ⊢
  refine ⟨decided.1, decided.2.1, fun t here => range.2 t ?_⟩
  cases m with
  | none => cases here
  | some t' => exact here

/-- The anonymous record of a stray entry is in range. -/
theorem totesInRange_strayed {s : State} (h : TotesInRange s) :
    TotesInRange { s with lane := putZone 1 ⟨.held, some anonymousRecord, false, none⟩ s.lane } :=
  totesInRange_of_lane h rfl rfl fun r stands =>
    (stands.of_putZone le_rfl).imp id fun same => by
      rw [← Option.some.inj same]
      exact toteInRange_anonymous

theorem totesInRange_newLane {s : State} {fs : List Byte} {mode : ReleaseMode} {polarity : EyePolarity} (h : TotesInRange s) :
    TotesInRange { s with lane := newLane fs mode polarity s.lane } :=
  totesInRange_of_lane h rfl rfl fun _ stands => .inl (inLane_newLane stands)

/-- Every event keeps the TOTE fields of every record in their ranges. -/
theorem totesInRange_kept : KeptByEvents TotesInRange := by
  refine keptByEvents_of_onward (fun h onward => onward.totesInRange h) (powerUp := fun enc levels s => ?powerUp)
    (resetBlocks := fun {s} h => ?resetBlocks) (leadingEdge := fun {s} h _ => ?leadingEdge) (stray := fun {s} h noInbound _ => ?stray)
    (takeTote := fun {s} h source payload => ?takeTote) (setLine := fun h fs => ?setLine) (setLane := fun {s} h fs => ?setLane)
    (setGeometry := fun h _ => h) (running := fun h => ?running)
  case powerUp =>
    unfold powerUp
    exact (rescanInPlace_onward _).onward.totesInRange (totesInRange_rescan (totesInRange_poweredOn enc levels s.pending))
  case resetBlocks =>
    unfold resetBlocks
    exact (rescanInPlace_onward _).onward.totesInRange (totesInRange_rescan (totesInRange_emptied h))
  case leadingEdge => exact totesInRange_leadingEdge h
  case stray =>
    unfold enterZone1
    split
    · simp_all
    · exact (((raise_onward _ _ _).onward.trans (trim_onward _)).trans (evalReady_onward _).onward).totesInRange
        (totesInRange_strayed h)
  case takeTote =>
    unfold takeTote
    dsimp only
    split
    · rw [totesInRange_iff] at h ⊢
      refine ⟨fun r waits => ?_, h.2⟩
      rcases List.mem_append.mp waits with old | new
      · exact h.1 r old
      · rw [List.mem_singleton.mp new]
        exact toteInRange_normalise source payload
    · exact (raise_onward _ _ s).onward.totesInRange h
  case setLine => exact takeLine_keeps (fun h onward => onward.totesInRange h) h fs fun _ _ _ => h
  case setLane =>
    rcases takeLane_cases fs s with same | ⟨mode, polarity, -, -, taken⟩
    · rwa [same]
    · have settings := totesInRange_newLane (fs := fs) (mode := mode) (polarity := polarity) h
      rcases taken with ⟨-, same⟩ | ⟨-, same⟩ <;> rw [same]
      · exact (((trim_onward _).trans (evalReady_onward _).onward).trans (settleLane_onward _).onward).totesInRange settings
      · obtain ⟨u, stopped, -, same'⟩ := lanePolarityChanged_cases { s with lane := newLane fs mode polarity s.lane }
        rw [same']
        exact (rescanInPlace_onward _).onward.totesInRange (totesInRange_rescan (stopped.onward.totesInRange settings))
  case running => exact (rescanToRunning_onward _).onward.totesInRange (totesInRange_rescan h)

end Sys2Proof.Machine
end

section
/-! SUPPORT. Settings and counters in their ranges (Tables 1-1 to 7-1): clamping puts a setting in its range, and no other event leaves
it. -/

namespace Sys2Proof.Machine

theorem le_clamp (lo hi v : Nat) : lo ≤ clamp lo hi v := Nat.le_max_left lo _

theorem clamp_le {lo hi : Nat} (ordered : lo ≤ hi) (v : Nat) : clamp lo hi v ≤ hi :=
  Nat.max_le.mpr ⟨ordered, Nat.min_le_right v hi⟩

/-- A clamped setting is in its range. -/
theorem clamp_range {lo hi : Nat} (ordered : lo ≤ hi) (v : Nat) : lo ≤ clamp lo hi v ∧ clamp lo hi v ≤ hi :=
  ⟨le_clamp lo hi v, clamp_le ordered v⟩

theorem field1_le (fs : List Byte) (i : Nat) : field1 fs i ≤ 255 := Nat.le_of_lt_succ (fs.getD i 0).isLt

theorem geometryInRange_geometryOf (fs : List Byte) : GeometryInRange (geometryOf fs) :=
  ⟨clamp_le (by decide) _, clamp_range (by decide) _, field1_le fs 4, field1_le fs 5, clamp_range (by decide) _, field1_le fs 7,
    field1_le fs 8, clamp_range (by decide) _⟩

theorem eyeInRange_lineEye (fs : List Byte) (polarity : EyePolarity) (e : Eye) : EyeInRange (lineEye fs polarity e) := by
  refine ⟨clamp_range (by decide) _, clamp_range (by decide) _, fun c => ?_, clamp_le (by decide) _⟩
  fin_cases c <;> exact clamp_range (by decide) _

theorem inRange_lineSettings {s : State} (h : InRange s) (fs : List Byte) (edge : EdgeSelect) (gate : GateLength)
    (polarity : EyePolarity) : InRange (lineSettings fs edge gate polarity s) := by
  obtain ⟨⟨speed, acc⟩, -, -, -, rest⟩ := h
  refine ⟨?_, eyeInRange_lineEye fs polarity s.eye, ⟨clamp_range (by decide) _, clamp_le (by decide) _, clamp_le (by decide) _⟩,
    ⟨clamp_range (by decide) _, clamp_range (by decide) _⟩, rest⟩
  simp only [lineSettings, lineBelt]
  split
  · exact ⟨speed, acc⟩
  · exact ⟨speed, Nat.zero_le _⟩

/-- The settings of a SET LANE of a right structure are in their ranges. -/
theorem laneInRange_newLane {fs : List Byte} (right : laneStructure fs = true) (mode : ReleaseMode) (polarity : EyePolarity)
    (l : Lane) : LaneInRange (newLane fs mode polarity l) := by
  obtain ⟨low, high, some, classes⟩ := (laneStructure_iff fs).mp right
  refine ⟨⟨low, high⟩, fun none => ?_, clamp_range (by decide) _, clamp_range (by decide) _, clamp_range (by decide) _⟩
  have zero := congrArg BitVec.toNat (show BitVec.ofNat 4 (field1 fs 1) = 0 from none)
  have small : field1 fs 1 < 2 ^ 4 := by omega
  rw [BitVec.toNat_ofNat, Nat.mod_eq_of_lt small] at zero
  exact absurd zero (Nat.ne_of_gt some)

theorem inRange_appendInbound {s : State} (h : InRange s) (t : ToteFields) (carried : Bool) (lead : Pos) :
    InRange (appendInbound t carried lead s) := h

theorem inRange_decideTote {s : State} (h : InRange s) (m : Option ToteFields) (lead : Pos) :
    InRange (decideTote m lead s).1 := by
  rcases decideTote_cases m lead s with ⟨onward, -⟩ | ⟨-, n, same⟩ | ⟨how, -, -, same⟩
  · exact onward.onward.ranges h
  · rw [same]
    exact (((trim_onward _).trans (raise_onward _ n _).onward).trans (settleLane_onward _).onward).ranges
      (inRange_appendInbound h (m.getD anonymousFields) true lead)
  · rw [same]
    have before : InRange { s with diverter := commitVerdict (verdict lead s) s.belt.pos s.diverter } :=
      (diverterPins_onward s s.pins (by simp)).ranges h
    refine (settleLane_onward _).onward.ranges ((commitReservation_laneSide how (m.getD anonymousFields) lead _).inRange ?_
      (inRange_appendInbound before (m.getD anonymousFields) false lead))
    rw [(commitReservation_cases _ _ _ _).2.1]
    exact id

theorem inRange_rescan {s : State} (h : InRange s) : InRange (rescan s) := (rescan_onward s).ranges h

theorem eyeInRange_sampledEye {e : Eye} (h : EyeInRange e) (now : Pos) (level : Bool) : EyeInRange (sampledEye now level e) := by
  unfold sampledEye
  split <;> exact h

/-- Every event keeps every setting and counter in its range. -/
theorem inRange_kept : KeptByEvents InRange := by
  refine keptByEvents_of_onward (fun h onward => onward.ranges h) (powerUp := fun enc levels s => ?powerUp)
    (resetBlocks := fun {s} h => ?resetBlocks) (leadingEdge := fun {s} h _ => ?leadingEdge)
    (stray := fun {s} h noInbound _ => ?stray) (takeTote := fun {s} h source payload => ?takeTote)
    (setLine := fun h fs => ?setLine) (setLane := fun {s} h fs => ?setLane) (setGeometry := fun {s} h fs => ?setGeometry)
    (running := fun h => ?running)
  case powerUp =>
    unfold powerUp
    refine (rescanInPlace_onward _).onward.ranges (inRange_rescan ?_)
    obtain ⟨belt, eye, rest⟩ : InRange State.reset := by decide +kernel
    exact ⟨belt, eyeInRange_sampledEye eye 0 levels.eye, rest⟩
  case resetBlocks =>
    obtain ⟨belt, eye, tracking, admission, geometry, lane, errors, -⟩ := h
    unfold resetBlocks
    exact (rescanInPlace_onward _).onward.ranges (inRange_rescan
      ⟨⟨belt.1, Nat.zero_le _⟩, eyeInRange_sampledEye eye _ _, tracking, admission, geometry, lane, errors, Nat.zero_le _⟩)
  case leadingEdge =>
    obtain ⟨m, u, -, before, -, same⟩ := leadingEdge_cases s
    rw [same]
    exact inRange_decideTote (before.ranges h) m s.belt.pos
  case stray =>
    have count : (enterZone1 s).counter.count = s.counter.count := by
      unfold enterZone1
      split <;> rw [(evalReady_keeps _).2.2]
      · rfl
      · rw [(trim_lane _).2]
        rfl
    exact (enterZone1_laneSide s).inRange (by rw [count]; exact id) h
  case takeTote =>
    unfold takeTote
    dsimp only
    split
    · exact h
    · exact (raise_onward _ _ s).onward.ranges h
  case setLine => exact takeLine_keeps (fun h onward => onward.ranges h) h fs (inRange_lineSettings h fs)
  case setLane =>
    rcases takeLane_cases fs s with same | ⟨mode, polarity, right, -, taken⟩
    · rwa [same]
    · obtain ⟨belt, eye, tracking, admission, geometry, -, rest⟩ := h
      have settings : InRange { s with lane := newLane fs mode polarity s.lane } :=
        ⟨belt, eye, tracking, admission, geometry, laneInRange_newLane right mode polarity s.lane, rest⟩
      rcases taken with ⟨-, same⟩ | ⟨-, same⟩ <;> rw [same]
      · exact (((trim_onward _).trans (evalReady_onward _).onward).trans (settleLane_onward _).onward).ranges settings
      · obtain ⟨u, stopped, -, same'⟩ := lanePolarityChanged_cases { s with lane := newLane fs mode polarity s.lane }
        rw [same']
        exact (rescanInPlace_onward _).onward.ranges (inRange_rescan (stopped.onward.ranges settings))
  case setGeometry =>
    obtain ⟨belt, eye, tracking, admission, geometry, rest⟩ := h
    refine ⟨belt, eye, tracking, admission, ?_, rest⟩
    simp only [takeGeometry]
    split
    · exact geometryInRange_geometryOf fs
    · exact geometry
  case running => exact (rescanToRunning_onward _).onward.ranges (inRange_rescan h)

/-- Settles O57: settings by clamping, totes by normalisation; the other events only take away. -/
theorem everythingStaysInRange : Obligations.EverythingStaysInRange :=
  fun _ _ ranges totes e => ⟨inRange_kept.step ranges e, totesInRange_kept.step totes e⟩

end Sys2Proof.Machine
end

section
/-! SUPPORT. The room of the lane (R84, R88): a commitment and a reservation take only room that is there, and where an entry, a rescan or a
smaller Z takes more, the trim gives it back. -/

namespace Sys2Proof.Machine

/-- A node with right reservation entries and its room kept, its totes in range and a zone count of the manual. -/
structure Roomy (s : State) : Prop where
  right : ReservationsRight s.admission
  room : RoomKept s
  totes : TotesInRange s
  low : 2 ≤ s.lane.zoneCount
  high : s.lane.zoneCount ≤ 8

theorem Roomy.onward {s t : State} (h : Roomy s) (onward : Onward s t) : Roomy t where
  right := onward.table.right h.right
  room := onward.roomKept h.room
  totes := onward.totesInRange h.totes
  low := onward.zoneCount ▸ h.low
  high := onward.zoneCount ▸ h.high

/-- The node with one more inbound record and its trim is roomy when the lane has a zone for it. -/
theorem roomy_trim {s : State} (right : ReservationsRight s.admission) (totes : TotesInRange s)
    (fits : held s.lane + s.lane.inbound.length ≤ s.lane.zoneCount) (low : 2 ≤ s.lane.zoneCount)
    (high : s.lane.zoneCount ≤ 8) : Roomy (trim s) where
  right := (trim_onward s).table.right right
  room := roomKept_of_trim fits
  totes := (trim_onward s).totesInRange totes
  low := (trim_onward s).zoneCount ▸ low
  high := (trim_onward s).zoneCount ▸ high

theorem roomy_rescan {s : State} (right : ReservationsRight s.admission) (totes : TotesInRange s)
    (low : 2 ≤ s.lane.zoneCount) (high : s.lane.zoneCount ≤ 8) : Roomy (rescan s) where
  right := (rescan_onward s).table.right right
  room := rescan_roomKept s
  totes := totesInRange_rescan totes
  low := (rescan_laneSide s).zoneCount ▸ low
  high := (rescan_laneSide s).zoneCount ▸ high

theorem reservationsRight_of_none {a : Admission} (none : a.table = []) : ReservationsRight a := by
  simp [ReservationsRight, none]

/-- A new entry of an order without one, of 1 to 7 zones, keeps the entries right (R84). -/
theorem reservationsRight_append {a : Admission} (right : ReservationsRight a) {r : Reservation}
    (free : hasReservation r.order a = false) (numbered : r.order ≠ 0) (low : 1 ≤ r.zones) (high : r.zones ≤ 7) :
    ReservationsRight { a with table := a.table ++ [r] } := by
  obtain ⟨different, each⟩ := right
  constructor
  · simp only [List.map_append, List.map_cons, List.map_nil]
    refine List.nodup_append.mpr ⟨different, List.nodup_singleton _, ?_⟩
    rintro _ among _ single rfl
    obtain ⟨q, inTable, order⟩ := List.mem_map.mp among
    exact hasReservation_eq_false.mp free q inTable (order.trans (List.mem_singleton.mp single))
  · intro q among
    rcases List.mem_append.mp among with old | new
    · exact each q old
    · rw [List.mem_singleton.mp new]
      exact ⟨numbered, low, high⟩

/-- A commitment takes only the room that its decision has found (R79). -/
theorem roomy_commitDivert {s : State} (h : Roomy s) {m : Option ToteFields} (range : ∀ t, m = some t → ToteInRange t) {how : Admit}
    (admitted : decision m s = .admitted how) (v : Verdict) (lead : Pos) :
    Roomy (commitDivert v how (m.getD anonymousFields) lead s) := by
  obtain ⟨t, rfl, -, -, -, fits⟩ := decision_admitted admitted
  have tote := range t rfl
  have step := diverterPins_onward s (d := commitVerdict v s.belt.pos s.diverter) s.pins (by simp)
  refine Roomy.onward ?_ (settleLane_onward _).onward
  set u := appendInbound t false lead { s with diverter := commitVerdict v s.belt.pos s.diverter } with appended
  have totes : TotesInRange u := totesInRange_appendInbound (step.totesInRange h.totes) tote false lead
  have admission : u.admission = s.admission := rfl
  have sum : held u.lane + u.lane.inbound.length = held s.lane + s.lane.inbound.length + 1 := by
    rw [appendInbound_length, held_appendInbound]
    rfl
  have before := h.room
  simp only [RoomKept, roomSum] at before
  obtain ⟨lane, -, -, reservation⟩ := commitReservation_cases how t lead u
  have side := commitReservation_laneSide how t lead u
  have totes' : TotesInRange (commitReservation how t lead u) :=
    totesInRange_of_lane totes side.tracking side.eye (by rw [lane]; exact fun _ => .inl)
  have low := h.low
  have high := h.high
  obtain ⟨one, -⟩ : 1 ≤ needed t ∧ needed t ≤ 8 := by
    obtain ⟨_, _, _, -⟩ := tote
    simp only [needed]
    omega
  have built : ReservationsRight (commitReservation how t lead u).admission →
      held u.lane + u.lane.inbound.length + reserved (commitReservation how t lead u).admission ≤ s.lane.zoneCount →
      Roomy (commitReservation how t lead u) := by
    intro right room
    refine ⟨right, ?_, totes', by rw [lane]; exact low, by rw [lane]; exact high⟩
    simp only [RoomKept, roomSum, lane]
    exact room
  rcases reservation with ⟨same, notKept⟩ | ⟨rfl, used⟩ | ⟨n, rfl, created⟩
  · rw [same, admission] at built
    refine built h.right ?_
    cases how with
    | plain =>
      have room := fits one
      simp only [roomSum] at room
      omega
    | onReservation => exact absurd rfl notKept
    | newReservation n =>
      obtain ⟨_, _, _, _, _, room⟩ := fits
      simp only [roomSum] at room
      omega
  · have kept : ∃ r ∈ s.admission.table, r.order = t.order := by simpa [AdmitFits, hasReservation] using fits
    have fewer := useOnes_zones kept fun r among => (h.right.2 r among).2.1
    rw [used, admission] at built
    refine built ((useOnes_tableOnward t.order s.admission.table).right h.right) ?_
    rw [reserved_eq] at before ⊢
    rw [useReservation_table]
    omega
  · obtain ⟨some, count, -, numbered, free, room⟩ := fits
    rw [created, admission] at built
    refine built (reservationsRight_append h.right free numbered some ?_) ?_
    · obtain ⟨_, _, _, -⟩ := tote
      simp only [needed] at count
      dsimp only
      omega
    · simp only [roomSum, reserved_eq, zonesOf_append, zonesOf_cons, zonesOf_nil] at room ⊢
      omega

theorem roomy_decideTote {s : State} (h : Roomy s) {m : Option ToteFields} (range : ∀ t, m = some t → ToteInRange t)
    (lead : Pos) : Roomy (decideTote m lead s).1 := by
  rcases decideTote_cases m lead s with ⟨onward, -⟩ | ⟨carries, n, same⟩ | ⟨how, admitted, -, same⟩
  · exact h.onward onward.onward
  · rw [same]
    have tote : ToteInRange (m.getD anonymousFields) := by
      cases m with
      | none => exact toteInRange_anonymous
      | some t => exact range t rfl
    have appended := roomy_trim (s := appendInbound (m.getD anonymousFields) true lead s) h.right
      (totesInRange_appendInbound h.totes tote true lead) (by
        rw [appendInbound_length, held_appendInbound]
        exact ((canCarry_iff _).mp carries).2) h.low h.high
    exact appended.onward ((raise_onward _ n _).trans (settleLane_onward _)).onward
  · rw [same]
    exact roomy_commitDivert h range admitted _ _

/-- A SET LANE that is not refused leaves the records of the lane and the inbound list room under its Z (R131). -/
theorem newLane_fits {s : State} (h : Roomy s) {fs : List Byte} (free : laneBusy fs s.lane = false) (mode : ReleaseMode)
    (polarity : EyePolarity) :
    held (newLane fs mode polarity s.lane) + (newLane fs mode polarity s.lane).inbound.length ≤
      (newLane fs mode polarity s.lane).zoneCount := by
  rw [newLane_inbound]
  by_cases same : s.lane.zoneCount = field1 fs 0
  · have zones : held (newLane fs mode polarity s.lane) = held s.lane :=
      held_congr (by exact same.symm) fun k _ => by rw [zone_newLane_same same]
    rw [zones, newLane_zoneCount, ← same]
    have room := h.room
    simp only [RoomKept, roomSum] at room
    omega
  · obtain ⟨-, inbound⟩ : held s.lane = 0 ∧ s.lane.inbound = [] :=
      (laneBusy_eq_false free).resolve_left fun kept => same kept.1.symm
    rw [inbound]
    exact held_le _

/-- Every event keeps the entries right and held + inbound + reserved at most Z. -/
theorem roomy_kept : KeptByEvents Roomy := by
  refine keptByEvents_of_onward (fun h onward => h.onward onward) (powerUp := fun enc levels s => ?powerUp)
    (resetBlocks := fun {s} h => ?resetBlocks) (leadingEdge := fun {s} h _ => ?leadingEdge)
    (stray := fun {s} h noInbound _ => ?stray) (takeTote := fun {s} h source payload => ?takeTote)
    (setLine := fun {s} h fs => ?setLine) (setLane := fun {s} h fs => ?setLane)
    (setGeometry := fun h _ => ⟨h.right, h.room, h.totes, h.low, h.high⟩) (running := fun {s} h => ?running)
  case powerUp =>
    unfold powerUp
    have low : 2 ≤ (poweredOn enc levels s.pending).lane.zoneCount := show 2 ≤ State.reset.lane.zoneCount by decide
    have high : (poweredOn enc levels s.pending).lane.zoneCount ≤ 8 := show State.reset.lane.zoneCount ≤ 8 by decide
    exact (roomy_rescan (reservationsRight_of_none rfl) (totesInRange_poweredOn enc levels s.pending) low high).onward
      (rescanInPlace_onward _).onward
  case resetBlocks =>
    unfold resetBlocks
    exact (roomy_rescan (reservationsRight_of_none rfl) (totesInRange_emptied h.totes) h.low h.high).onward
      (rescanInPlace_onward _).onward
  case leadingEdge =>
    obtain ⟨m, u, matched, before, -, same⟩ := leadingEdge_cases s
    have range : ∀ t, m = some t → ToteInRange t := by
      rcases matched with rfl | ⟨r, waits, rfl⟩
      · exact nofun
      · exact fun t e => Option.some.inj e ▸ (totesInRange_iff.mp h.totes).1 r waits
    have decided := roomy_decideTote (h.onward before) range s.belt.pos
    have totes := totesInRange_leadingEdge h.totes
    rw [same] at totes ⊢
    exact ⟨decided.right, decided.room, totes, decided.low, decided.high⟩
  case stray =>
    unfold enterZone1
    rw [noInbound]
    have fits : held (putZone 1 ⟨.held, some anonymousRecord, false, none⟩ s.lane) + s.lane.inbound.length ≤ s.lane.zoneCount := by
      rw [noInbound]
      exact held_le _
    have raised := (raise_onward .strayEntry ⟨0, 0, 0, 0, s.belt.pos⟩
      { s with lane := putZone 1 ⟨.held, some anonymousRecord, false, none⟩ s.lane })
    exact (roomy_trim (by simpa using h.right) (raised.onward.totesInRange (totesInRange_strayed h.totes)) (by simpa using fits)
      (by simpa using h.low) (by simpa using h.high)).onward (evalReady_onward _).onward
  case takeTote =>
    have totes := totesInRange_kept.takeTote h.totes source payload
    unfold takeTote at totes ⊢
    by_cases room : s.tracking.queue.length < Config.trackingDepth
    · rw [if_pos room] at totes ⊢
      exact ⟨h.right, h.room, totes, h.low, h.high⟩
    · rw [if_neg room]
      exact h.onward (raise_onward _ _ s).onward
  case setLine => exact takeLine_keeps (fun h onward => h.onward onward) h fs fun _ _ _ => ⟨h.right, h.room, h.totes, h.low, h.high⟩
  case setLane =>
    rcases takeLane_cases fs s with same | ⟨mode, polarity, right, free, taken⟩
    · rwa [same]
    · have settings := totesInRange_newLane (fs := fs) (mode := mode) (polarity := polarity) h.totes
      obtain ⟨low, high, -⟩ := (laneStructure_iff fs).mp right
      rcases taken with ⟨-, same⟩ | ⟨-, same⟩ <;> rw [same]
      · refine Roomy.onward ?_ ((evalReady_onward _).trans (settleLane_onward _)).onward
        exact roomy_trim h.right settings (newLane_fits h free mode polarity) low high
      · obtain ⟨u, stopped, lane, same'⟩ := lanePolarityChanged_cases { s with lane := newLane fs mode polarity s.lane }
        rw [same']
        refine (roomy_rescan (stopped.onward.table.right h.right) (stopped.onward.totesInRange settings) ?_ ?_).onward
          (rescanInPlace_onward _).onward
        · rw [stopped.onward.zoneCount]
          exact low
        · rw [stopped.onward.zoneCount]
          exact high
  case running => exact (roomy_rescan h.right h.totes h.low h.high).onward (rescanToRunning_onward _).onward

/-- Settles O56: with totes in range, the sum of the room is kept together with them (`Roomy`). -/
theorem roomIsKept : Obligations.RoomIsKept := by
  intro s t right room totes low high e
  have kept := roomy_kept.step ⟨right, room, totes, low, high⟩ e
  exact ⟨kept.right, kept.room⟩

end Sys2Proof.Machine
end

section
/-! SUPPORT. A property of the lane and the Counter Interface: what has to be shown for every event to keep it. The events of the belt's
side, of the plan and of the Ring Line leave both alone. -/

namespace Sys2Proof.Machine

/-- The eye leaves the lane and the Counter Interface alone but at a leading edge. -/
theorem eyeTakes_lane_cases (level : Bool) (s : State) :
    ((eyeTakes level s).lane = s.lane ∧ (eyeTakes level s).counter = s.counter) ∨
      eyeTakes level s = leadingEdge { s with pins := { s.pins with eye := level } } := by
  unfold eyeTakes eyeChanged
  dsimp only
  split
  · exact .inl ⟨rfl, rfl⟩
  · split
    · exact .inr rfl
    all_goals exact .inl ⟨rfl, rfl⟩

/-- SET LINE leaves the lane and the Counter Interface alone. -/
theorem takeLine_lane (fs : List Byte) (s : State) : (takeLine fs s).1.lane = s.lane ∧ (takeLine fs s).1.counter = s.counter := by
  have changed : ∀ t, (polarityChanged t).lane = t.lane ∧ (polarityChanged t).counter = t.counter := by
    intro t
    unfold polarityChanged
    dsimp only
    split
    · exact ⟨(deliverTrail_offLane _ t).lane, (deliverTrail_offLane _ t).counter⟩
    · exact ⟨rfl, rfl⟩
  rcases takeLine_cases fs s with same | ⟨edge, gate, polarity, same | same⟩ <;> rw [same]
  · exact ⟨rfl, rfl⟩
  · exact ⟨rfl, rfl⟩
  · exact changed _

theorem takeReservations_lane (s : State) :
    (takeReservations s).lane = s.lane ∧ (takeReservations s).counter = s.counter := by
  unfold takeReservations
  split <;> simp

theorem clearDiverter_lane (s : State) : (clearDiverter s).lane = s.lane ∧ (clearDiverter s).counter = s.counter := by
  unfold clearDiverter
  split <;> exact ⟨rfl, rfl⟩

theorem takeTote_lane (t : ToteFields) (s : State) : (takeTote t s).lane = s.lane ∧ (takeTote t s).counter = s.counter := by
  unfold takeTote
  dsimp only
  split <;> exact ⟨rfl, rfl⟩

theorem takeClearFlags_lane (fs : List Byte) (s : State) :
    (takeClearFlags fs s).1.lane = s.lane ∧ (takeClearFlags fs s).1.counter = s.counter := by
  unfold takeClearFlags
  dsimp only
  split <;> exact ⟨rfl, rfl⟩

/-- A property of the lane and the Counter Interface alone is kept by every event when the events of these two blocks keep it. -/
theorem keptByEvents_of_lane {P : State → Prop}
    (same : ∀ {s t : State}, P s → t.lane = s.lane ∧ t.counter = s.counter → P t)
    (entries : ∀ {s}, P s → P (takeEntries s)) (powerUp : ∀ enc levels s, P (powerUp enc levels s))
    (resetBlocks : ∀ {s}, P s → P (resetBlocks s)) (decide : ∀ {s}, P s → ∀ m lead, P (decideTote m lead s).1)
    (zoneEye : ∀ {s}, P s → ∀ k, 1 ≤ k → k ≤ 8 → ∀ blocked, P (zoneChanged k blocked s))
    (transferRunsOut : ∀ {s}, P s → ∀ k, P (transferRunsOut k s)) (dischargeRunsOut : ∀ {s}, P s → P (dischargeRunsOut s))
    (button : ∀ {s}, P s → ∀ level, P (buttonTakes level s)) (press : ∀ {s}, P s → P (pressTaken s))
    (lamp : ∀ {s}, P s → P (waitLampOut s)) (tick : ∀ {s}, P s → P (tickTimers s))
    (setLane : ∀ {s}, P s → ∀ fs, P (takeLane fs s).1) (running : ∀ {s}, P s → s.lane.state = .jammed → P (rescanToRunning s))
    (pause : ∀ {s}, P s → P (takePause s).1) (resume : ∀ {s}, P s → P (takeResume s).1)
    (release : ∀ {s}, P s → P (takeReleaseAsk s).1) : KeptByEvents P where
  pending h rest := same h ⟨rfl, rfl⟩
  takeTrailing {s} h := same h ⟨(takeTrailing_offLane s).lane, (takeTrailing_offLane s).counter⟩
  takeBlocked {s} h := same h ⟨(takeBlocked_offLane s).lane, (takeBlocked_offLane s).counter⟩
  takeHead {s} h := same h ⟨(takeHead_offLane s).lane, (takeHead_offLane s).counter⟩
  takeReservations {s} h := same h (takeReservations_lane s)
  takeFire {s} h := same h ⟨(takeFire_offLane s).lane, (takeFire_offLane s).counter⟩
  takeRelease {s} h := same h ⟨(takeRelease_offLane s).lane, (takeRelease_offLane s).counter⟩
  takeEntries h := entries h
  powerUp _ enc levels := powerUp enc levels _
  pinAsserted {s} h := same h ⟨(pinAsserted_offLane s).lane, (pinAsserted_offLane s).counter⟩
  pinReleased {s} h := by
    unfold pinReleased
    dsimp only
    split
    · exact resetBlocks (same (same h (t := { s with
        resetLow := false, report := resetReport .resetPin s.report, line := resetLine s.line }) ⟨rfl, rfl⟩)
        ⟨(followLos_offLane _).lane, (followLos_offLane _).counter⟩)
    · exact h
  encTakes h _ _ := same h ⟨rfl, rfl⟩
  gateOver {s} h := same h ⟨(gateOver_offLane s).lane, (gateOver_offLane s).counter⟩
  eyeTakes {s} h level := by
    rcases eyeTakes_lane_cases level s with kept | edge
    · exact same h kept
    · obtain ⟨m, u, -, -, off, equal⟩ := leadingEdge_cases { s with pins := { s.pins with eye := level } }
      rw [edge, equal]
      exact same (decide (same h ⟨off.lane, off.counter⟩) m s.belt.pos) ⟨rfl, rfl⟩
  throwOver {s} h home := same h ⟨(throwOver_offLane home s).lane, (throwOver_offLane home s).counter⟩
  returnOver {s} h home := same h ⟨(returnOver_offLane home s).lane, (returnOver_offLane home s).counter⟩
  homeBecomesActive {s} h := same h ⟨(homeBecomesActive_offLane s).lane, (homeBecomesActive_offLane s).counter⟩
  homeWaitOver {s} h := same h ⟨(homeWaitOver_offLane s).lane, (homeWaitOver_offLane s).counter⟩
  zoneEyeTakes {s} h k low high level := by
    have pin : P (zeyeTakes k level s) := same h ⟨rfl, rfl⟩
    unfold zoneEyeTakes
    dsimp only
    split
    · exact pin
    · exact zoneEye pin k low high _
  transferRunsOut h k := transferRunsOut h k
  dischargeRunsOut h := dischargeRunsOut h
  buttonTakes h level := button h level
  pressTaken h := press h
  waitLampOut h := lamp h
  losTakes {s} h level partly := same h ⟨(losTakes_offLane level partly s).lane, (losTakes_offLane level partly s).counter⟩
  idleSeen {s} h := same h ⟨(idleSeen_offLane s).lane, (idleSeen_offLane s).counter⟩
  transmitterIdle {s} h := same h ⟨(transmitterIdle_offLane s).lane, (transmitterIdle_offLane s).counter⟩
  tickTimers h := tick h
  badFrame h := same h ⟨rfl, rfl⟩
  takeTote h _ _ := same h (takeTote_lane _ _)
  position h _ := same h ⟨rfl, rfl⟩
  forwardFrame {s} h f := same h ⟨(forwardFrame_offLane f s).lane, (forwardFrame_offLane f s).counter⟩
  queueAnswer h _ := same h ⟨rfl, rfl⟩
  nodeReset {s} h answer := by
    have emptied : P { s with
        report := resetReport .nodeReset s.report, line := { s.line with localQueue := [], credit := 0 } } := same h ⟨rfl, rfl⟩
    cases answer with
    | none => exact resetBlocks emptied
    | some f => exact resetBlocks (same emptied (t := queueAnswer f _) ⟨rfl, rfl⟩)
  ask {s} h c fs _ notReset := by
    cases c <;> simp only [askEffect]
    case readStatus | readIdentity | readTracking | readLane | readReservations => exact h
    case setWindow | writeEntries | continueEntries | readEntries | continueRead | swapPlan | copyPlan => exact same h ⟨rfl, rfl⟩
    case setGeometry | setReports => exact same h ⟨rfl, rfl⟩
    case setLine => exact same h (takeLine_lane fs s)
    case setLane => exact setLane h fs
    case clearFlags => exact same h (takeClearFlags_lane fs s)
    case clearFault =>
      have diverter : P (clearDiverter s) := same h (clearDiverter_lane s)
      have lane : ∀ {u}, P u → P (clearLane u) := by
        intro u held
        unfold clearLane
        split
        · exact running held ‹_›
        · exact held
      unfold takeClearFault
      dsimp only
      split
      · split <;> split
        · exact lane diverter
        · exact lane h
        · exact diverter
        · exact h
      · exact h
    case pauseLane => exact pause h
    case resumeLane => exact resume h
    case release => exact release h
    case nodeReset => exact absurd rfl notReset

end Sys2Proof.Machine
end

section
/-! SUPPORT. The lane comes to rest: each of its rules brings a record nearer to the lane's end or takes one from the inbound list, so that
the rules end within their bound (R117, R122; log entry 28). -/

namespace Sys2Proof.Machine

/-! ### When no rule applies -/

theorem dueZone_eq_none {l : Lane} {n : Nat} : dueZone l n = none ↔ ∀ k, 1 ≤ k → k ≤ n → transferDue l k = false := by
  induction n with
  | zero =>
    refine ⟨fun _ k low high => ?_, fun _ => rfl⟩
    omega
  | succ n ih =>
    unfold dueZone
    constructor
    · intro h k low high
      split at h
      · cases h
      · rcases Nat.lt_or_ge n k with last | before
        · rw [show k = n + 1 by omega]
          simp_all
        · exact ih.mp h k low before
    · intro h
      rw [if_neg (by simp [h (n + 1) (by omega) le_rfl])]
      exact ih.mpr fun k low high => h k low (by omega)

theorem transferDue_iff (l : Lane) (k : Nat) : transferDue l k = true ↔
    l.state ≠ .jammed ∧ k < l.zoneCount ∧ (zone l k).state = .held ∧ (zone l (k + 1)).state = .empty := by
  simp [transferDue, and_assoc]

/-- No transfer is due in a lane whose HELD zones have no EMPTY zone before them, or that is JAMMED. -/
theorem dueZone_eq_none_iff (l : Lane) : dueZone l l.zoneCount = none ↔
    (l.state ≠ .jammed → ∀ k, k < l.zoneCount → 1 ≤ k → ¬ ((zone l k).state = .held ∧ (zone l (k + 1)).state = .empty)) := by
  rw [dueZone_eq_none]
  constructor
  · intro h free k inside low ⟨held, empty⟩
    have due := (transferDue_iff l k).mpr ⟨free, inside, held, empty⟩
    rw [h k low inside.le] at due
    cases due
  · intro h k low high
    by_contra due
    obtain ⟨free, inside, held, empty⟩ := (transferDue_iff l k).mp (by simpa using due)
    exact h free k inside low ⟨held, empty⟩

/-- No rule applies exactly to a lane at rest. -/
theorem laneRule_eq_none_iff (s : State) : laneRule s = none ↔ LaneRests s := by
  have transfers := dueZone_eq_none_iff s.lane
  unfold laneRule LaneRests
  cases state : (zone s.lane 1).state <;> cases waits : s.lane.inbound <;>
    simp [Option.map_eq_none_iff, transfers]

/-! ### The way left to the records of a lane -/

/-- What a zone's tote has before it: twice the zones to the lane's end, for a HELD zone. -/
def zonePath (k : Nat) (z : Zone) : Nat := if z.state = .held then 2 * (8 - k) else 0

/-- The way before all totes that stand still. -/
def pathLeft (l : Lane) : Nat := ∑ k ∈ Finset.Icc 1 8, zonePath k (zone l k)

/-- Whether zone 1 is still to follow the inbound list (R117). -/
def zone1Lags (l : Lane) : Bool :=
  match (zone l 1).state with
  | .empty => !l.inbound.isEmpty
  | .filling => l.inbound.isEmpty
  | .held | .passing => false

/-- How many rules the lane can still take: the way left in the zones, the whole lane for each inbound record, and one for zone 1. -/
def laneWork (l : Lane) : Nat := pathLeft l + 14 * l.inbound.length + (zone1Lags l).toNat

theorem zonePath_le (k : Nat) (z : Zone) : zonePath k z ≤ 2 * (8 - k) := by
  unfold zonePath
  split
  · exact le_rfl
  · exact Nat.zero_le _

theorem pathLeft_le (l : Lane) : pathLeft l ≤ 56 :=
  calc pathLeft l ≤ ∑ k ∈ Finset.Icc 1 8, 2 * (8 - k) := Finset.sum_le_sum fun k _ => zonePath_le k _
    _ = 56 := by decide

/-- The way left after one zone was put: that zone's own part is exchanged. -/
theorem pathLeft_putZone (l : Lane) (z : Zone) {k : Nat} (low : 1 ≤ k) (high : k ≤ 8) :
    pathLeft (putZone k z l) + zonePath k (zone l k) = pathLeft l + zonePath k z := by
  have place : k ∈ Finset.Icc 1 8 := Finset.mem_Icc.mpr ⟨low, high⟩
  have others : ∑ j ∈ (Finset.Icc 1 8).erase k, zonePath j (zone (putZone k z l) j) =
      ∑ j ∈ (Finset.Icc 1 8).erase k, zonePath j (zone l j) := by
    refine Finset.sum_congr rfl fun j among => ?_
    obtain ⟨other, inside⟩ := Finset.mem_erase.mp among
    rw [zone_putZone_of_ne l z (Finset.mem_Icc.mp inside).1 other low]
  rw [pathLeft, pathLeft, ← Finset.add_sum_erase _ _ place, ← Finset.add_sum_erase _ _ place, others,
    zone_putZone_self l z low high]
  omega

/-- A lane with no newly HELD zone has no longer way left. -/
def NoNewHeld (l m : Lane) : Prop := ∀ k, 1 ≤ k → (zone m k).state = .held → (zone l k).state = .held

theorem NoNewHeld.refl (l : Lane) : NoNewHeld l l := fun _ _ h => h

theorem NoNewHeld.trans {l m n : Lane} (h : NoNewHeld l m) (g : NoNewHeld m n) : NoNewHeld l n :=
  fun k low held => h k low (g k low held)

theorem NoNewHeld.pathLeft_le {l m : Lane} (h : NoNewHeld l m) : pathLeft m ≤ pathLeft l := by
  refine Finset.sum_le_sum fun k among => ?_
  unfold zonePath
  split
  · rw [if_pos (h k (Finset.mem_Icc.mp among).1 ‹_›)]
  · exact Nat.zero_le _

/-- A zone that was put and is not HELD. -/
theorem noNewHeld_putZone (l : Lane) {z : Zone} {k : Nat} (notHeld : z.state ≠ .held) : NoNewHeld l (putZone k z l) := by
  obtain ⟨i, lowI, put⟩ : ∃ i, 1 ≤ i ∧ putZone k z l = putZone i z l := by
    rcases Nat.eq_zero_or_pos k with rfl | low
    · exact ⟨1, le_rfl, rfl⟩
    · exact ⟨k, low, rfl⟩
  rw [put]
  intro j low held
  rcases Nat.lt_or_ge 8 i with high | high
  · rwa [putZone_of_gt l z high] at held
  · rw [zone_putZone l z low lowI high] at held
    split at held
    · exact absurd held notHeld
    · exact held

/-! ### A discharge makes no zone HELD -/

theorem evalReady_lane (s : State) : (evalReady s).lane = s.lane := (evalReady_keeps s).1

theorem endAfterDischarge_lane (s : State) : (endAfterDischarge s).lane = s.lane := by
  unfold endAfterDischarge
  dsimp only
  split
  · split <;> rfl
  · rfl

theorem completionTaken_lane (r : LaneRecord) (s : State) : (completionTaken r s).lane = s.lane := by
  unfold completionTaken
  dsimp only
  split
  · rfl
  · exact endAfterDischarge_lane _

theorem completeDischarge_lane (s : State) : (completeDischarge s).lane = dischargedLane s.lane := by
  unfold completeDischarge
  dsimp only
  split
  · rw [completionTaken_lane, evalReady_lane]
  · rw [evalReady_lane]

theorem dischargedLane_noNewHeld (l : Lane) : NoNewHeld l (dischargedLane l) :=
  noNewHeld_putZone (z := emptyZone) (k := l.zoneCount) l (by decide)

theorem startDischarge_noNewHeld (s : State) : NoNewHeld s.lane (startDischarge s).lane := by
  have passing : NoNewHeld s.lane (evalReady { s with
      lane := { putZone s.lane.zoneCount { zone s.lane s.lane.zoneCount with state := .passing } s.lane with
        discharge := some ⟨0, s.lane.dischargeLimit * 10⟩ } }).lane := by
    rw [evalReady_lane]
    exact noNewHeld_putZone (z := { zone s.lane s.lane.zoneCount with state := .passing }) s.lane nofun
  unfold startDischarge
  dsimp only
  split
  · exact passing
  · rw [completeDischarge_lane]
    exact passing.trans (dischargedLane_noNewHeld _)

theorem idleRequest_noNewHeld (n : Nat) (s : State) : NoNewHeld s.lane (idleRequest n s).lane := by
  unfold idleRequest
  split
  · exact .refl _
  · exact startDischarge_noNewHeld _

theorem endInWaiting_noNewHeld (s : State) : NoNewHeld s.lane (endInWaiting s).lane := by
  unfold endInWaiting
  dsimp only
  split
  · exact idleRequest_noNewHeld 2 _
  · exact .refl _

theorem zoneZHeld_noNewHeld (s : State) : NoNewHeld s.lane (zoneZHeld s).lane := by
  unfold zoneZHeld
  split
  · split
    · split
      · exact startDischarge_noNewHeld _
      · exact endInWaiting_noNewHeld s
    · exact endInWaiting_noNewHeld s
  · exact .refl _

/-! ### Each rule leaves less to do -/

theorem transferPart_notHeld {z : Zone} (h : z.state ≠ .held) : (transferPart z).state ≠ .held := by
  unfold transferPart
  split
  · decide
  · exact h

/-- An arrival at zone k makes zone k HELD, and no other zone. -/
theorem arrive_pathLeft {k : Nat} (low : 2 ≤ k) (high : k ≤ 8) {s : State} (behind : (zone s.lane (k - 1)).state ≠ .held) :
    pathLeft (arrive k s).lane ≤ pathLeft s.lane + 2 * (8 - k) := by
  unfold arrive
  split
  · omega
  · rename_i r _
    have left : NoNewHeld s.lane (putZone (k - 1) (transferPart { zone s.lane (k - 1) with record := none }) s.lane) :=
      noNewHeld_putZone s.lane (transferPart_notHeld (by exact behind))
    have moved := pathLeft_putZone (putZone (k - 1) (transferPart { zone s.lane (k - 1) with record := none }) s.lane)
      ⟨.held, some r, false, none⟩ (by omega : 1 ≤ k) high
    have own := zonePath_le k ⟨.held, some r, false, none⟩
    have fewer := left.pathLeft_le
    have bound : pathLeft (putZone k ⟨.held, some r, false, none⟩
        (putZone (k - 1) (transferPart { zone s.lane (k - 1) with record := none }) s.lane)) ≤ pathLeft s.lane + 2 * (8 - k) := by
      omega
    dsimp only
    split
    · refine (zoneZHeld_noNewHeld _).pathLeft_le.trans ?_
      rw [evalReady_lane]
      exact bound
    · rw [evalReady_lane]
      exact bound

/-- A transfer from zone k takes the way from zone k to the next. -/
theorem startTransfer_pathLeft {k : Nat} (low : 1 ≤ k) (high : k < 8) {s : State} (held : (zone s.lane k).state = .held) :
    pathLeft (startTransfer k s).lane + 2 ≤ pathLeft s.lane := by
  set passing : Zone := { zone s.lane k with
    state := .passing, partEnded := !zoneBlocked s k, timer := some ⟨0, s.lane.transferLimit * 10⟩ } with passes
  set filling : Zone := { zone s.lane (k + 1) with state := .filling } with fills
  have own : zonePath k (zone s.lane k) = 2 * (8 - k) := by simp [zonePath, held]
  have gone : zonePath k passing = 0 := by simp [zonePath, passes]
  have first := pathLeft_putZone s.lane passing low high.le
  have second : NoNewHeld (putZone k passing s.lane) (putZone (k + 1) filling (putZone k passing s.lane)) :=
    noNewHeld_putZone _ nofun
  have started := second.pathLeft_le
  unfold startTransfer
  dsimp only
  split
  · have behind : (zone (evalReady { s with lane := putZone (k + 1) filling (putZone k passing s.lane) }).lane
        (k + 1 - 1)).state ≠ .held := by
      rw [evalReady_lane, Nat.add_sub_cancel, zone_putZone_of_ne _ _ low (by omega) (by omega),
        zone_putZone_self _ _ low high.le]
      exact nofun
    have arrived := arrive_pathLeft (by omega) (by omega) behind
    simp only [evalReady_lane] at arrived
    exact (Nat.add_le_add_right arrived 2).trans (by omega)
  · simp only [evalReady_lane]
    exact (Nat.add_le_add_right started 2).trans (by omega)

theorem zone1Lags_le (l : Lane) : (zone1Lags l).toNat ≤ 1 := Bool.toNat_le _

theorem zone1Lags_of_held {l : Lane} (held : (zone l 1).state = .held) : zone1Lags l = false := by
  simp [zone1Lags, held]

/-- What an entry from the inbound list leaves. -/
theorem enterZone1_lane {s : State} {r : InboundRecord} {rest : List InboundRecord} (waits : s.lane.inbound = r :: rest) :
    (enterZone1 s).lane = { putZone 1 ⟨.held, some r.record, false, none⟩ s.lane with inbound := rest } := by
  unfold enterZone1
  rw [waits]
  exact evalReady_lane _

/-- Zone 1, once it lags no more, has one thing less to do. -/
theorem laneWork_lt_of_lags {l m : Lane} (lags : zone1Lags l = true) (settled : zone1Lags m = false)
    (way : pathLeft m + 14 * m.inbound.length ≤ pathLeft l + 14 * l.inbound.length) : laneWork m < laneWork l := by
  simp only [laneWork, lags, settled, Bool.toNat_true, Bool.toNat_false]
  omega

/-- Zone 1 that takes up with the inbound list has nothing left to follow, and an entry takes no more than its record's way. -/
theorem zone1Fills_laneWork {s : State} {r : InboundRecord} {rest : List InboundRecord} (empty : (zone s.lane 1).state = .empty)
    (waits : s.lane.inbound = r :: rest) : laneWork (zone1Fills s).lane < laneWork s.lane := by
  have lags : zone1Lags s.lane = true := by simp [zone1Lags, empty, waits]
  have fills := (noNewHeld_putZone (z := { zone s.lane 1 with state := .filling }) (k := 1) s.lane nofun).pathLeft_le
  unfold zone1Fills
  dsimp only
  split
  · rw [enterZone1_lane (r := r) (rest := rest) (by rw [evalReady_lane]; exact waits)]
    simp only [evalReady_lane]
    refine laneWork_lt_of_lags lags
      (zone1Lags_of_held (congrArg Zone.state (zone_putZone_self _ ⟨.held, some r.record, false, none⟩ le_rfl (by omega)))) ?_
    have entered := pathLeft_putZone (putZone 1 { zone s.lane 1 with state := .filling } s.lane)
      ⟨.held, some r.record, false, none⟩ le_rfl (by omega)
    have own := zonePath_le 1 ⟨.held, some r.record, false, none⟩
    rw [waits, List.length_cons]
    exact (show pathLeft (putZone 1 ⟨.held, some r.record, false, none⟩
      (putZone 1 { zone s.lane 1 with state := .filling } s.lane)) + 14 * rest.length ≤ _ by omega)
  · rw [evalReady_lane]
    refine laneWork_lt_of_lags lags ?_ (Nat.add_le_add_right fills _)
    simp [zone1Lags, zone_putZone_self, waits]

/-- Each rule of a lane of at most 8 zones leaves less to do. -/
theorem laneRule_laneWork {s t : State} (zones : s.lane.zoneCount ≤ 8) (h : laneRule s = some t) :
    laneWork t.lane < laneWork s.lane := by
  rcases laneRule_cases h with ⟨r, rest, empty, waits, rfl⟩ | ⟨filling, none, rfl⟩ | ⟨k, low, -, due, rfl⟩
  · exact zone1Fills_laneWork empty waits
  · have lags : zone1Lags s.lane = true := by simp [zone1Lags, filling, none]
    have emptied := (noNewHeld_putZone (z := { zone s.lane 1 with state := .empty }) (k := 1) s.lane nofun).pathLeft_le
    rw [evalReady_lane]
    refine laneWork_lt_of_lags lags ?_ (Nat.add_le_add_right emptied _)
    simp [zone1Lags, zone_putZone_self, none]
  · obtain ⟨-, inside, held, -⟩ := (transferDue_iff _ _).mp due
    have path := startTransfer_pathLeft low (by omega) held
    have inbound := (startTransfer_onward low (s := s)).inbound.length_le
    have lags := zone1Lags_le (startTransfer k s).lane
    simp only [laneWork]
    omega

/-! ### The settling ends -/

/-- Rules enough for the work take every rule, and more rules change nothing. -/
theorem laneRules_add {n : Nat} (m : Nat) : ∀ {s : State}, s.lane.zoneCount ≤ 8 → laneWork s.lane ≤ n →
    laneRules (n + m) s = laneRules n s ∧ laneRule (laneRules n s) = none := by
  induction n with
  | zero =>
    intro s zones work
    have none : laneRule s = none := by
      cases rule : laneRule s with
      | none => rfl
      | some t => exact absurd (laneRule_laneWork zones rule) (by omega)
    refine ⟨?_, none⟩
    cases m with
    | zero => rfl
    | succ m => simp [laneRules, none]
  | succ n ih =>
    intro s zones work
    rw [Nat.succ_add]
    unfold laneRules
    cases rule : laneRule s with
    | none => exact ⟨rfl, rule⟩
    | some t =>
      have less := laneRule_laneWork zones rule
      exact ih ((laneRule_laneSide rule).zoneCount.trans_le zones) (by omega)

/-- A lane of at most 8 zones and 4 inbound records has work for fewer rules than the bound (log entry 28). -/
theorem laneWork_le {l : Lane} (few : l.inbound.length ≤ 4) : laneWork l ≤ 113 := by
  have path := pathLeft_le l
  have lags := zone1Lags_le l
  unfold laneWork
  omega

/-- After an event the lane comes to rest. -/
theorem settleLane_rests {s : State} (zones : s.lane.zoneCount ≤ 8) (few : s.lane.inbound.length ≤ 4) : LaneRests (settleLane s) :=
  (laneRule_eq_none_iff _).mp (laneRules_add 0 zones ((laneWork_le few).trans (by omega : 113 ≤ 128))).2

/-- The settling takes the lane's rules one after another, and its bound is never met. -/
theorem settleLane_of_rule {s t : State} (zones : s.lane.zoneCount ≤ 8) (few : s.lane.inbound.length ≤ 4)
    (rule : laneRule s = some t) : settleLane s = settleLane t := by
  have work := laneWork_le few
  have less := laneRule_laneWork zones rule
  have taken : settleLane s = laneRules 127 t := by
    show laneRules (127 + 1) s = _
    rw [laneRules, rule]
  rw [taken]
  exact (laneRules_add 1 ((laneRule_laneSide rule).zoneCount.trans_le zones) (by omega)).1.symm

end Sys2Proof.Machine
end

section
/-! SUPPORT. Every event leaves the lane at rest: an event that touches a zone or the inbound list ends in the settling of the lane. -/

namespace Sys2Proof.Machine

/-- A lane at rest, with the places that its rest and its settling depend on. -/
structure Resting (s : State) : Prop where
  zones : s.lane.zoneCount ≤ 8
  few : s.lane.inbound.length ≤ 4
  rests : LaneRests s

/-- The rest of a lane is that of its zones' states, of its list and of its state. -/
theorem LaneRests.congr {s t : State} (h : LaneRests s) (zones : ∀ k, 1 ≤ k → (zone t.lane k).state = (zone s.lane k).state)
    (count : t.lane.zoneCount = s.lane.zoneCount) (inbound : t.lane.inbound = s.lane.inbound)
    (jammed : t.lane.state ≠ .jammed → s.lane.state ≠ .jammed) : LaneRests t := by
  obtain ⟨empty, filling, advance⟩ := h
  refine ⟨?_, ?_, fun free k inside low => ?_⟩
  · rw [zones 1 le_rfl, inbound]
    exact empty
  · rw [zones 1 le_rfl, inbound]
    exact filling
  · rw [zones k low, zones (k + 1) (by omega)]
    exact advance (jammed free) k (count ▸ inside) low

theorem Resting.congr {s t : State} (h : Resting s) (zones : ∀ k, 1 ≤ k → (zone t.lane k).state = (zone s.lane k).state)
    (count : t.lane.zoneCount = s.lane.zoneCount) (inbound : t.lane.inbound = s.lane.inbound)
    (jammed : t.lane.state ≠ .jammed → s.lane.state ≠ .jammed) : Resting t :=
  ⟨count ▸ h.zones, inbound ▸ h.few, h.rests.congr zones count inbound jammed⟩

theorem Resting.of_same_lane {s t : State} (h : Resting s) (same : t.lane = s.lane) : Resting t :=
  h.congr (fun k _ => by rw [same]) (by rw [same]) (by rw [same]) (by rw [same]; exact id)

/-- The settling brings a lane of the manual's bounds to rest. -/
theorem resting_settleLane {s : State} (zones : s.lane.zoneCount ≤ 8) (few : s.lane.inbound.length ≤ 4) : Resting (settleLane s) where
  zones := (settleLane_laneSide s).zoneCount.trans_le zones
  few := (settleLane_onward s).inbound.length_le.trans few
  rests := settleLane_rests zones few

/-- What goes onward from a lane of the manual's bounds is brought to rest. -/
theorem resting_of_onward {s t : State} (zones : s.lane.zoneCount ≤ 8) (few : s.lane.inbound.length ≤ 4) (onward : LaneOnward s t) :
    Resting (settleLane t) :=
  resting_settleLane (onward.side.zoneCount.trans_le zones) (onward.inbound.length_le.trans few)

theorem rescan_inbound_le (s : State) : (rescan s).lane.inbound.length ≤ s.lane.inbound.length :=
  (rescan_onward s).inbound.length_le

theorem resting_rescanInPlace {s : State} (zones : s.lane.zoneCount ≤ 8) (few : s.lane.inbound.length ≤ 4) :
    Resting (rescanInPlace s) := by
  have count : (rescan s).lane.zoneCount ≤ 8 := (rescan_laneSide s).zoneCount.trans_le zones
  have waits := (rescan_inbound_le s).trans few
  unfold rescanInPlace
  dsimp only
  split
  · exact resting_of_onward count waits ((evalReady_onward _).trans (zoneZHeld_onward _))
  · exact resting_of_onward count waits (evalReady_onward _)

theorem resting_rescanToRunning {s : State} (zones : s.lane.zoneCount ≤ 8) (few : s.lane.inbound.length ≤ 4) :
    Resting (rescanToRunning s) :=
  resting_of_onward ((rescan_laneSide s).zoneCount.trans_le zones) ((rescan_inbound_le s).trans few)
    ((laneState_onward _ .running).trans (evalReady_onward _))

/-- What a stray entry leaves. -/
theorem enterZone1_lane_of_stray {s : State} (none : s.lane.inbound = []) :
    (enterZone1 s).lane = putZone 1 ⟨.held, some anonymousRecord, false, Option.none⟩ s.lane := by
  unfold enterZone1
  rw [none]
  dsimp only
  rw [evalReady_lane, (trim_lane _).1, raise_lane]

theorem resting_entered {s : State} (zones : s.lane.zoneCount ≤ 8) (few : s.lane.inbound.length ≤ 4) :
    Resting (settleLane (enterZone1 s)) := by
  refine resting_settleLane ((enterZone1_laneSide s).zoneCount.trans_le zones) ?_
  cases waits : s.lane.inbound with
  | nil =>
    rw [enterZone1_lane_of_stray waits, putZone_inbound]
    exact few
  | cons r rest =>
    rw [enterZone1_lane waits]
    rw [waits, List.length_cons] at few
    exact (show rest.length ≤ 4 by omega)

theorem resting_decideTote {s : State} (h : Resting s) (m : Option ToteFields) (lead : Pos) : Resting (decideTote m lead s).1 := by
  rcases decideTote_cases m lead s with ⟨-, off⟩ | ⟨carries, n, same⟩ | ⟨how, admitted, -, same⟩
  · exact h.of_same_lane off.lane
  · have room := ((canCarry_iff _).mp carries).1
    rw [same]
    refine resting_settleLane (by rw [raise_lane, (trim_lane _).1]; exact h.zones) ?_
    rw [raise_lane, (trim_lane _).1, appendInbound_length]
    omega
  · obtain ⟨t, rfl, -, -, room, -⟩ := decision_admitted admitted
    rw [same]
    refine resting_settleLane ((commitReservation_laneSide _ _ _ _).zoneCount.trans_le h.zones) ?_
    rw [(commitReservation_cases _ _ _ _).1, appendInbound_length]
    exact room

/-- Every event leaves the lane at rest. -/
theorem resting_kept : KeptByEvents Resting := by
  refine keptByEvents_of_lane (fun h same => h.of_same_lane same.1) (entries := fun {s} h => ?entries)
    (powerUp := fun enc levels s => ?powerUp) (resetBlocks := fun {s} h => ?resetBlocks)
    (decide := fun h m lead => resting_decideTote h m lead) (zoneEye := fun {s} h k low _ blocked => ?zoneEye)
    (transferRunsOut := fun {s} h k => ?transfer) (dischargeRunsOut := fun {s} h => ?discharge)
    (button := fun {s} h level => ?button) (press := fun {s} h => ?press) (lamp := fun {s} h => ?lamp)
    (tick := fun {s} h => ?tick) (setLane := fun {s} h fs => ?setLane)
    (running := fun h _ => resting_rescanToRunning h.zones h.few) (pause := fun {s} h => ?pause)
    (resume := fun {s} h => ?resume) (release := fun {s} h => ?release)
  case entries =>
    unfold takeEntries
    split
    · refine resting_settleLane (by simpa using h.zones) ?_
      simp only [raiseAll_lane]
      exact (List.length_filter_le _ _).trans h.few
    · exact h
  case powerUp =>
    unfold powerUp
    exact resting_rescanInPlace (show State.reset.lane.zoneCount ≤ 8 by decide) (Nat.zero_le 4)
  case resetBlocks =>
    unfold resetBlocks
    exact resting_rescanInPlace h.zones (Nat.zero_le 4)
  case zoneEye =>
    unfold zoneChanged
    split
    · exact h
    · split
      · split
        · unfold zone1Blocked
          split
          · exact resting_entered h.zones h.few
          · exact resting_entered h.zones h.few
          · exact resting_of_onward h.zones h.few (jam_onward _ _ _ s)
          · exact resting_of_onward h.zones h.few (jam_onward _ _ _ s)
        · exact resting_of_onward h.zones h.few (zoneKBlocked_onward (by omega) s)
      · exact resting_of_onward h.zones h.few (zoneCleared_onward k s)
  case transfer =>
    unfold transferRunsOut
    split
    · exact h
    · exact resting_of_onward h.zones h.few (jam_onward _ _ _ s)
  case discharge =>
    unfold dischargeRunsOut
    split
    · exact h
    · exact resting_of_onward h.zones h.few (jam_onward _ _ _ s)
  case button =>
    refine h.of_same_lane ?_
    unfold buttonTakes
    dsimp only
    split
    · rfl
    · split <;> rfl
  case press =>
    unfold pressTaken
    split
    · exact h
    · exact resting_of_onward h.zones h.few ((counter_onward s (c := { s.counter with button := .spent, buttonTimer := none }) id).trans
        (releaseRequest_onward 0 _))
  case lamp =>
    refine h.of_same_lane ?_
    unfold waitLampOut
    split <;> rfl
  case tick => exact h.congr (fun k low => by rw [zone_tickTimers s low]) rfl rfl id
  case setLane =>
    rcases takeLane_cases fs s with same | ⟨mode, polarity, right, -, taken⟩
    · rwa [same]
    · obtain ⟨-, high, -⟩ := (laneStructure_iff fs).mp right
      have few : (newLane fs mode polarity s.lane).inbound.length ≤ 4 := by simpa using h.few
      rcases taken with ⟨-, same⟩ | ⟨-, same⟩ <;> rw [same]
      · refine resting_settleLane ?_ ?_ <;> rw [evalReady_lane, (trim_lane _).1]
        · exact high
        · exact few
      · obtain ⟨u, -, lane, same'⟩ := lanePolarityChanged_cases { s with lane := newLane fs mode polarity s.lane }
        rw [same']
        refine resting_rescanInPlace ?_ ?_ <;> rw [lane]
        · exact high
        · exact few
  case pause =>
    unfold takePause
    split
    · exact h
    · exact h
    · exact h.congr (fun k _ => by rw [evalReady_lane]; rfl) (by rw [evalReady_lane]) (by rw [evalReady_lane]) fun _ => by simp [*]
  case resume =>
    unfold takeResume
    split
    · exact h
    · exact h
    · exact h.congr (fun k _ => by rw [evalReady_lane]; rfl) (by rw [evalReady_lane]) (by rw [evalReady_lane]) fun _ => by simp [*]
  case release => exact resting_of_onward h.zones h.few (releaseRequest_onward 1 s)

/-- Settles O36: an event that touches a zone or the inbound list settles the lane, and the settling ends at rest. -/
theorem everyStepLeavesTheLaneAtRest : Obligations.EveryStepLeavesTheLaneAtRest :=
  fun _ _ zones _ few rests e => (resting_kept.step ⟨zones.1.2, few, rests⟩ e).rests

end Sys2Proof.Machine
end

section
/-! SUPPORT. A lane that agrees with itself: what a zone may hold by itself and beside its neighbours, as a property that the exchange of one
zone or of two neighbours keeps (R114, R122, R123, R126). -/

namespace Sys2Proof.Machine

/-! ### The lamp reads the zones' states and records -/

theorem frontUpTo_congr {l m : Lane} (same : ∀ k, 1 ≤ k → (zone m k).record = (zone l k).record) (n : Nat) :
    frontUpTo m n = frontUpTo l n := by
  induction n with
  | zero => rfl
  | succ n ih => simp only [frontUpTo, same (n + 1) (by omega), ih]

theorem anyRecordUpTo_congr {l m : Lane} (same : ∀ k, 1 ≤ k → (zone m k).record = (zone l k).record) (p : LaneRecord → Bool)
    (n : Nat) : anyRecordUpTo m p n = anyRecordUpTo l p n := by
  induction n with
  | zero => rfl
  | succ n ih => simp only [anyRecordUpTo, same (n + 1) (by omega), ih]

/-- The front record depends on the zones' records alone. -/
theorem frontRecord_congr {l m : Lane} (count : m.zoneCount = l.zoneCount)
    (same : ∀ k, 1 ≤ k → (zone m k).record = (zone l k).record) : frontRecord m = frontRecord l := by
  rw [frontRecord, frontRecord, count, frontUpTo_congr same]

theorem anyRecord_congr {l m : Lane} (count : m.zoneCount = l.zoneCount)
    (same : ∀ k, 1 ≤ k → (zone m k).record = (zone l k).record) (p : LaneRecord → Bool) : anyRecord m p = anyRecord l p := by
  rw [anyRecord, anyRecord, count, anyRecordUpTo_congr same]

theorem frontComplete_congr {l m : Lane} (count : m.zoneCount = l.zoneCount)
    (same : ∀ k, 1 ≤ k → (zone m k).record = (zone l k).record) : frontComplete m = frontComplete l := by
  have sequences : ∀ order n, sequencesUpTo m order n = sequencesUpTo l order n := by
    intro order n
    induction n with
    | zero => rfl
    | succ n ih => simp only [sequencesUpTo, ih, anyRecord_congr count same]
  simp only [frontComplete, frontRecord_congr count same, sequences]

/-- The lamp depends on the lane state, on zone Z's state and on the zones' records alone (R142). -/
theorem readyHolds_congr {l m : Lane} (state : m.state = l.state) (count : m.zoneCount = l.zoneCount)
    (last : (zone m l.zoneCount).state = (zone l l.zoneCount).state)
    (same : ∀ k, 1 ≤ k → (zone m k).record = (zone l k).record) : readyHolds m = readyHolds l := by
  rw [readyHolds, readyHolds, state, count, last, frontComplete_congr count same]

/-! ### One zone and its neighbours -/

/-- A zone that agrees with itself; `inner` says that it is below Z, `free` that the lane is not JAMMED. -/
structure ZoneOwn (inner free : Prop) (z : Zone) : Prop where
  held : z.state = .held → z.record.isSome = true
  absent : z.state = .empty ∨ z.state = .filling → z.record = none
  mark : z.partEnded = true → z.state = .passing ∧ z.record.isSome = true
  timer : z.timer.isSome = true → z.state = .passing ∧ inner
  last : ¬ inner → z.state = .passing → z.record.isSome = true
  runs : free → inner → z.state = .passing → z.timer.isSome = true
  stops : ¬ free → z.timer = none

/-- A zone passes its record to the next (R123). -/
def Passes (z : Zone) : Prop := z.state = .passing ∧ z.record.isSome = true

/-- The zones of a lane agree with themselves and their neighbours, and the discharge timer with zone Z. -/
structure LaneSound (l : Lane) : Prop where
  low : 2 ≤ l.zoneCount
  high : l.zoneCount ≤ 8
  own : ∀ k, 1 ≤ k → k ≤ l.zoneCount → ZoneOwn (k < l.zoneCount) (l.state ≠ .jammed) (zone l k)
  link : ∀ k, 1 ≤ k → k < l.zoneCount → ((zone l (k + 1)).state = .filling ↔ Passes (zone l k))
  above : ∀ k, l.zoneCount < k → zone l k = emptyZone
  jammed : l.state = .jammed → l.discharge = none ∧ l.lateTimeout = false
  discharge : l.state ≠ .jammed → (l.discharge.isSome = true ↔ (zone l l.zoneCount).state = .passing)

theorem laneSound_of_laneAgrees {l : Lane} (h : LaneAgrees l) : LaneSound l := by
  obtain ⟨⟨low, high⟩, zones, jammed, free⟩ := h
  have agrees : ∀ k, 1 ≤ k → k ≤ l.zoneCount → ZoneAgrees l k := by
    intro k lowK inside
    have place := zones ⟨k - 1, by omega⟩
    simp only [show k - 1 + 1 = k by omega] at place
    rwa [if_pos (by omega)] at place
  refine ⟨low, high, fun k lowK inside => ?_, fun k lowK inside => ?_, fun k outside => ?_, fun stopped => ?_, fun runs => (free runs).1⟩
  · obtain ⟨held, absent, mark, timer, -, last⟩ := agrees k lowK inside
    refine ⟨held, absent, mark, timer, fun notInner => last (by omega), fun runs inner passing => ?_, fun stopped => ?_⟩
    · have place := (free runs).2 ⟨k - 1, by omega⟩
      simp only [show k - 1 + 1 = k by omega] at place
      exact place inner passing
    · have place := (jammed (not_not.mp stopped)).2.2 ⟨k - 1, by omega⟩
      simpa only [show k - 1 + 1 = k by omega] using place
  · obtain ⟨-, -, -, -, link, -⟩ := agrees (k + 1) (by omega) (by omega)
    exact link (by omega)
  · rcases Nat.lt_or_ge 8 k with beyond | within
    · exact zone_of_gt l beyond
    · have place := zones ⟨k - 1, by omega⟩
      simp only [show k - 1 + 1 = k by omega] at place
      rwa [if_neg (by omega)] at place
  · exact ⟨(jammed stopped).1, (jammed stopped).2.1⟩

theorem LaneSound.laneAgrees {l : Lane} (h : LaneSound l) : LaneAgrees l := by
  refine ⟨⟨h.low, h.high⟩, fun i => ?_, fun stopped => ⟨(h.jammed stopped).1, (h.jammed stopped).2, fun i => ?_⟩,
    fun runs => ⟨h.discharge runs, fun i inner => (h.own _ (by omega) (by omega)).runs runs inner⟩⟩
  · split
    · rename_i inside
      have own := h.own (i.val + 1) (by omega) (by omega)
      refine ⟨own.held, own.absent, own.mark, own.timer, fun second => ?_, fun last => own.last (by omega)⟩
      have link := h.link i.val (by omega) (by omega)
      rwa [Nat.add_sub_cancel]
    · exact h.above _ (by omega)
  · rcases Nat.lt_or_ge l.zoneCount (i.val + 1) with outside | inside
    · rw [h.above _ outside]
      rfl
    · exact (h.own _ (by omega) inside).stops (not_not.mpr stopped)

/-! ### Zones that agree with themselves -/

theorem zoneOwn_empty (inner free : Prop) : ZoneOwn inner free emptyZone := by
  constructor <;> simp [emptyZone]

theorem zoneOwn_held (inner free : Prop) (r : LaneRecord) : ZoneOwn inner free ⟨.held, some r, false, none⟩ := by
  constructor <;> simp

/-- A zone without a record becomes FILLING, or EMPTY again. -/
theorem ZoneOwn.awaiting {inner free : Prop} {z : Zone} (h : ZoneOwn inner free z) (awaits : z.state = .empty ∨ z.state = .filling)
    {state : ZoneState} (still : state = .empty ∨ state = .filling) : ZoneOwn inner free { z with state := state } := by
  have absent := h.absent awaits
  have unmarked : z.partEnded = false := by
    by_contra marked
    have passing := (h.mark (by simpa using marked)).1
    rcases awaits with state | state <;> exact absurd (passing.symm.trans state) nofun
  have untimed : z.timer = none := by
    by_contra timed
    have passing := (h.timer (Option.isSome_iff_ne_none.mpr timed)).1
    rcases awaits with state | state <;> exact absurd (passing.symm.trans state) nofun
  constructor
  · rintro rfl
    rcases still with state | state <;> cases state
  · exact fun _ => absent
  · exact fun marked => absurd (marked.symm.trans unmarked) nofun
  · intro timed
    rw [show ({ z with state := state } : Zone).timer = none from untimed] at timed
    cases timed
  · rintro - rfl
    rcases still with state | state <;> cases state
  · rintro - - rfl
    rcases still with state | state <;> cases state
  · exact fun _ => untimed

/-! ### The exchange of zones -/

/-- Two neighbours are exchanged: each agrees with itself, with the other, and with the zone beside it; whether zone Z passes stays. -/
theorem LaneSound.putPair {l : Lane} (h : LaneSound l) {k : Nat} {a b : Zone} (low : 1 ≤ k) (inside : k < l.zoneCount)
    (ownA : ZoneOwn True (l.state ≠ .jammed) a) (ownB : ZoneOwn (k + 1 < l.zoneCount) (l.state ≠ .jammed) b)
    (behind : 2 ≤ k → (a.state = .filling ↔ Passes (zone l (k - 1)))) (link : b.state = .filling ↔ Passes a)
    (before : k + 1 < l.zoneCount → ((zone l (k + 2)).state = .filling ↔ Passes b))
    (last : k + 1 = l.zoneCount → (b.state = .passing ↔ (zone l (k + 1)).state = .passing)) :
    LaneSound (putZone (k + 1) b (putZone k a l)) := by
  have high := h.high
  have at_zone : ∀ j, 1 ≤ j → zone (putZone (k + 1) b (putZone k a l)) j =
      if j = k + 1 then b else if j = k then a else zone l j := by
    intro j lowJ
    rw [zone_putZone _ b lowJ (by omega) (by omega), zone_putZone _ a lowJ low (by omega)]
  refine ⟨h.low, high, fun j lowJ insideJ => ?own, fun j lowJ insideJ => ?link, fun j outside => ?above, h.jammed, fun free => ?discharge⟩
  case own =>
    rw [at_zone j lowJ]
    split
    · rename_i same
      subst same
      exact ownB
    · split
      · rename_i same
        subst same
        rwa [putZone_zoneCount, putZone_zoneCount, eq_true inside]
      · exact h.own j lowJ insideJ
  case link =>
    rw [at_zone j lowJ, at_zone (j + 1) (by omega)]
    rcases Nat.lt_trichotomy j k with below | rfl | beyond
    · rw [if_neg (by omega : j + 1 ≠ k + 1), if_neg (by omega : j ≠ k + 1), if_neg (by omega : j ≠ k)]
      split
      · rename_i same
        have place := behind (by omega)
        rwa [show k - 1 = j by omega] at place
      · exact h.link j lowJ insideJ
    · rwa [if_pos rfl, if_neg (by omega), if_pos rfl]
    · rw [if_neg (by omega : j + 1 ≠ k + 1), if_neg (by omega : j + 1 ≠ k)]
      split
      · rename_i same
        subst same
        exact before insideJ
      · rw [if_neg (by omega)]
        exact h.link j lowJ insideJ
  case above =>
    have beyond : l.zoneCount < j := outside
    rw [at_zone j (by omega), if_neg (by omega), if_neg (by omega)]
    exact h.above j outside
  case discharge =>
    show l.discharge.isSome = true ↔ (zone (putZone (k + 1) b (putZone k a l)) l.zoneCount).state = .passing
    rw [at_zone l.zoneCount (by omega), h.discharge free]
    rcases Nat.lt_or_ge (k + 1) l.zoneCount with inner | end_
    · rw [if_neg (by omega), if_neg (by omega)]
    · have same : l.zoneCount = k + 1 := by omega
      rw [if_pos same, last same.symm, same]

/-- Putting a zone that stands there changes nothing. -/
theorem putZone_zone (l : Lane) {k : Nat} (low : 1 ≤ k) (high : k ≤ 8) : putZone k (zone l k) l = l := by
  have zones : l.zones.setIfInBounds (k - 1) (zone l k) = l.zones := by
    refine Vector.ext fun i inside => ?_
    rw [zone_eq_getElem l low high]
    simp only [Vector.getElem_setIfInBounds]
    split
    · rename_i same
      simp only [same]
    · rfl
  rw [putZone, zones]

theorem putZone_comm (l : Lane) {j k : Nat} (a b : Zone) (lowJ : 1 ≤ j) (low : 1 ≤ k) (other : j ≠ k) :
    putZone j a (putZone k b l) = putZone k b (putZone j a l) := by
  have places : j - 1 ≠ k - 1 := by omega
  simp only [putZone]
  congr 1
  refine Vector.ext fun i inside => ?_
  simp only [Vector.getElem_setIfInBounds]
  split <;> split <;> first | rfl | omega

/-- One zone below Z is exchanged. -/
theorem LaneSound.putInner {l : Lane} (h : LaneSound l) {k : Nat} {z : Zone} (low : 1 ≤ k) (inside : k < l.zoneCount)
    (own : ZoneOwn True (l.state ≠ .jammed) z) (behind : 2 ≤ k → (z.state = .filling ↔ Passes (zone l (k - 1))))
    (before : Passes z ↔ Passes (zone l k)) : LaneSound (putZone k z l) := by
  have high := h.high
  have moved := h.putPair (b := zone l (k + 1)) low inside own (h.own (k + 1) (by omega) inside) behind
    ((h.link k low inside).trans before.symm) (fun inner => h.link (k + 1) (by omega) inner) fun _ => Iff.rfl
  rwa [putZone_comm l _ _ (by omega) low (by omega), putZone_zone l (by omega) (by omega)] at moved

/-- Zone Z is exchanged, with the discharge timer. -/
theorem LaneSound.putLast {l : Lane} (h : LaneSound l) (free : l.state ≠ .jammed) {z : Zone} {discharge : Option Timer} (late : Bool)
    (own : ZoneOwn False True z) (behind : z.state = .filling ↔ Passes (zone l (l.zoneCount - 1)))
    (timed : discharge.isSome = true ↔ z.state = .passing) :
    LaneSound { putZone l.zoneCount z l with discharge := discharge, lateTimeout := late } := by
  have low := h.low
  have high := h.high
  have at_zone : ∀ j, 1 ≤ j → zone { putZone l.zoneCount z l with discharge := discharge, lateTimeout := late } j =
      if j = l.zoneCount then z else zone l j := fun j lowJ => zone_putZone l z lowJ (by omega) high
  refine ⟨low, high, fun j lowJ insideJ => ?own, fun j lowJ insideJ => ?link, fun j outside => ?above,
    fun jam => absurd jam free, fun _ => ?discharge⟩
  case own =>
    rw [at_zone j lowJ]
    split
    · rename_i same
      subst same
      simpa only [putZone_zoneCount, Nat.lt_irrefl, putZone_state, eq_true free] using own
    · exact h.own j lowJ insideJ
  case link =>
    have inside : j < l.zoneCount := insideJ
    rw [at_zone j lowJ, at_zone (j + 1) (by omega), if_neg (by omega : j ≠ l.zoneCount)]
    split
    · rename_i same
      rwa [show l.zoneCount - 1 = j by omega] at behind
    · exact h.link j lowJ inside
  case above =>
    have beyond : l.zoneCount < j := outside
    rw [at_zone j (by omega), if_neg (by omega)]
    exact h.above j beyond
  case discharge =>
    show discharge.isSome = true ↔
      (zone { putZone l.zoneCount z l with discharge := discharge, lateTimeout := late } l.zoneCount).state = .passing
    rw [at_zone l.zoneCount (by omega), if_pos rfl]
    exact timed

/-! ### Updates that are no exchange -/

/-- A lane with the zones, the state and the timers of one that agrees with itself. -/
theorem LaneSound.congr {l m : Lane} (h : LaneSound l) (zones : m.zones = l.zones) (count : m.zoneCount = l.zoneCount)
    (state : m.state = l.state) (discharge : m.discharge = l.discharge) (late : m.lateTimeout = l.lateTimeout) : LaneSound m := by
  have same := zone_congr zones
  obtain ⟨low, high, own, link, above, jammed, timed⟩ := h
  constructor <;> simp only [same, count, state, discharge, late] <;> assumption

/-- The lane pauses or resumes. -/
theorem LaneSound.free {l : Lane} (h : LaneSound l) (free : l.state ≠ .jammed) {state : LaneState} (still : state ≠ .jammed) :
    LaneSound { l with state := state } where
  low := h.low
  high := h.high
  own k low inside := by
    have own := h.own k low inside
    rw [eq_true free] at own
    show ZoneOwn _ (state ≠ .jammed) (zone l k)
    rwa [eq_true still]
  link k low inside := h.link k low inside
  above k outside := h.above k outside
  jammed jam := absurd jam still
  discharge _ := h.discharge free

/-- The lane of a jam: every timer stopped (R127). -/
theorem LaneSound.jam {l : Lane} (h : LaneSound l) : LaneSound { stopTimers l with state := .jammed } := by
  have at_zone : ∀ k, 1 ≤ k → zone { stopTimers l with state := .jammed } k = { zone l k with timer := none } :=
    fun k low => zone_stopTimers l low
  refine ⟨h.low, h.high, fun k low inside => ?_, fun k low inside => ?_, fun k outside => ?_, fun _ => ⟨rfl, rfl⟩, fun free => absurd rfl free⟩
  · rw [at_zone k low]
    have own := h.own k low inside
    exact ⟨own.held, own.absent, own.mark, nofun, own.last, fun free => absurd rfl free, fun _ => rfl⟩
  · rw [at_zone k low, at_zone (k + 1) (by omega)]
    exact h.link k low inside
  · have beyond : l.zoneCount < k := outside
    rw [at_zone k (by omega), h.above k beyond]
    rfl

/-- A rescan leaves no zone under way. -/
theorem rescanZone_still (blocked : Bool) (z : Zone) : (rescanZone blocked z).state ≠ .passing ∧ (rescanZone blocked z).state ≠ .filling := by
  unfold rescanZone
  split <;> exact ⟨nofun, nofun⟩

theorem zone_rescanZones_still (s : State) {k : Nat} (low : 1 ≤ k) (high : k ≤ 8) : (zone (rescanZones s) k).state ≠ .passing := by
  rw [zone_rescanZones s low high]
  split
  · exact (rescanZone_still _ _).1
  · exact nofun

/-- The zones as a rescan sets them agree, with any list and in any state of the lane (R128). -/
theorem laneSound_rescanned {s : State} (low : 2 ≤ s.lane.zoneCount) (high : s.lane.zoneCount ≤ 8) (state : LaneState)
    (inbound : List InboundRecord) : LaneSound { rescanZones s with state := state, inbound := inbound } := by
  have at_zone : ∀ k, 1 ≤ k → k ≤ 8 → zone { rescanZones s with state := state, inbound := inbound } k =
      if k ≤ s.lane.zoneCount then rescanZone (zoneBlocked s k) (zone s.lane k) else emptyZone :=
    fun k lowK highK => zone_rescanZones s lowK highK
  have still := rescanZone_still
  refine ⟨low, high, fun k lowK inside => ?_, fun k lowK inside => ?_, fun k outside => ?_, fun _ => ⟨rfl, rfl⟩, fun _ => ?_⟩
  · have within : k ≤ s.lane.zoneCount := inside
    rw [at_zone k lowK (by omega), if_pos within]
    unfold rescanZone
    split
    · exact zoneOwn_held _ _ _
    · exact zoneOwn_empty _ _
  · have within : k < s.lane.zoneCount := inside
    rw [at_zone k lowK (by omega), at_zone (k + 1) (by omega) (by omega), if_pos within.le, if_pos (by omega)]
    exact ⟨fun filling => absurd filling (still _ _).2, fun passes => absurd passes.1 (still _ _).1⟩
  · have beyond : s.lane.zoneCount < k := outside
    rcases Nat.lt_or_ge 8 k with away | near
    · exact zone_of_gt _ away
    · rw [at_zone k (by omega) near, if_neg (by omega)]
  · have last := at_zone s.lane.zoneCount (by omega) high
    rw [if_pos le_rfl] at last
    exact ⟨nofun, fun passing => absurd ((congrArg Zone.state last).symm.trans passing) (still _ _).1⟩

/-- The timers count; a late timeout may no longer come. -/
theorem laneSound_tickTimers {s : State} (h : LaneSound s.lane) : LaneSound (tickTimers s).lane := by
  have at_zone := fun k low => zone_tickTimers s (k := k) low
  obtain ⟨low, high, own, link, above, jammed, timed⟩ := h
  refine ⟨low, high, fun k lowK inside => ?_, fun k lowK inside => ?_, fun k outside => ?_, fun jam => ?_, fun free => ?_⟩
  · rw [at_zone k lowK]
    have own := own k lowK inside
    refine ⟨own.held, own.absent, own.mark, fun timed => own.timer (by simpa using timed), own.last, fun free inner passing => ?_,
      fun stopped => ?_⟩
    · simpa using own.runs free inner passing
    · simp [own.stops stopped]
  · rw [at_zone k lowK, at_zone (k + 1) (by omega)]
    exact link k lowK inside
  · have beyond : s.lane.zoneCount < k := outside
    rw [at_zone k (by omega), above k beyond]
    rfl
  · exact ⟨congrArg (Option.map Timer.next) (jammed jam).1, rfl⟩
  · rw [at_zone _ (by exact Nat.le_trans (by omega) low)]
    show (s.lane.discharge.map Timer.next).isSome = true ↔ (zone s.lane s.lane.zoneCount).state = .passing
    rw [Option.isSome_map]
    exact timed free

end Sys2Proof.Machine
end

section
/-! SUPPORT. The lane, the Counter Interface and the READY lamp agree after every event: each thing that the lane or a release does is shown
to lead from agreement to agreement (R122, R123, R126, R136 to R142). -/

namespace Sys2Proof.Machine

/-! ### Agreement -/

/-- The Counter Interface agrees with itself (R136, R138, R140). -/
structure CounterSound (c : Counter) : Prop where
  idle : c.release = .idle → c.group = none ∧ c.count = 0 ∧ c.pressWaits = false
  waiting : c.release = .waiting → c.group.isSome = true
  button : c.buttonTimer.isSome = true ↔ c.button = .timing

/-- Zone Z discharges in a lane that is not JAMMED (R126). -/
def Discharges (l : Lane) : Prop := l.state ≠ .jammed ∧ (zone l l.zoneCount).state = .passing

/-- Lane and Counter Interface agree, the lamp left aside. -/
structure Sound (s : State) : Prop where
  lane : LaneSound s.lane
  counter : CounterSound s.counter
  discharging : s.counter.release = .discharging ↔ Discharges s.lane

/-- Lane, Counter Interface and lamp agree. -/
structure Agrees (s : State) : Prop extends Sound s where
  lamp : LampTrue s

theorem agrees_iff {s : State} : Agrees s ↔ LaneAgrees s.lane ∧ CounterAgrees s ∧ LampTrue s := by
  constructor
  · intro h
    exact ⟨h.lane.laneAgrees, ⟨h.counter.idle, h.counter.waiting, h.counter.button, h.discharging⟩, h.lamp⟩
  · rintro ⟨lane, ⟨idle, waiting, button, discharging⟩, lamp⟩
    exact ⟨⟨laneSound_of_laneAgrees lane, ⟨idle, waiting, button⟩, discharging⟩, lamp⟩

/-- Agreement is of the lane and the Counter Interface alone. -/
theorem Agrees.of_same {s t : State} (h : Agrees s) (same : t.lane = s.lane ∧ t.counter = s.counter) : Agrees t := by
  obtain ⟨⟨lane, counter, discharging⟩, lamp⟩ := h
  obtain ⟨sameLane, sameCounter⟩ := same
  refine ⟨⟨sameLane ▸ lane, sameCounter ▸ counter, ?_⟩, ?_⟩
  · rwa [sameLane, sameCounter]
  · rwa [LampTrue, sameLane, sameCounter]

theorem Agrees.raise {s : State} (h : Agrees s) (k : NoteKind) (n : NoteBody) : Agrees (raise k n s) := h.of_same ⟨rfl, rfl⟩

theorem Agrees.raiseAll {s : State} (h : Agrees s) (k : NoteKind) (ns : List NoteBody) : Agrees (raiseAll k ns s) :=
  h.of_same ⟨raiseAll_lane k ns s, raiseAll_counter k ns s⟩

/-- The lamp evaluated anew makes an agreement whole. -/
theorem Sound.evalReady {s : State} (h : Sound s) : Agrees (evalReady s) := by
  obtain ⟨lane, -, counter⟩ := evalReady_keeps s
  obtain ⟨laneSound, ⟨idle, waiting, button⟩, discharging⟩ := h
  refine ⟨⟨lane ▸ laneSound, ?_, ?_⟩, ?_⟩
  · rw [counter]
    exact ⟨idle, waiting, button⟩
  · rw [counter, lane]
    exact discharging
  · rw [LampTrue, counter, lane]

/-- Another Counter Interface in the same release state, with its lamp. -/
theorem Agrees.counter_same {s : State} (h : Agrees s) {c : Counter} (sound : CounterSound c) (release : c.release = s.counter.release)
    (lit : c.readyLit = s.counter.readyLit) : Agrees { s with counter := c } :=
  ⟨⟨h.lane, sound, by rw [release]; exact h.discharging⟩, lit.trans h.lamp⟩

/-- The lane exchanged for one with the same state and the same passing of zone Z. -/
theorem Sound.lane_same {s : State} (h : Sound s) {l : Lane} (sound : LaneSound l) (same : Discharges l ↔ Discharges s.lane) :
    Sound { s with lane := l } := ⟨sound, h.counter, h.discharging.trans same.symm⟩

/-! ### Ends of a release -/

theorem CounterSound.quietEnd {c : Counter} (h : CounterSound c) : CounterSound (quietEnd c) :=
  ⟨fun _ => ⟨rfl, rfl, rfl⟩, nofun, h.button⟩

theorem Agrees.refuseRequest {s : State} (h : Agrees s) (r : RefuseReason) (n : Nat) : Agrees (refuseRequest r n s) :=
  (h.counter_same (c := { s.counter with waitTimer := some 0 }) ⟨h.counter.idle, h.counter.waiting, h.counter.button⟩ rfl rfl).raise _ _

/-- The end of a release while nothing is discharged. -/
theorem agrees_quietEnd {s : State} (lane : LaneSound s.lane) (counter : CounterSound s.counter) (lamp : LampTrue s)
    (still : ¬ Discharges s.lane) : Agrees { s with counter := quietEnd s.counter } :=
  ⟨⟨lane, counter.quietEnd, ⟨nofun, fun passing => absurd passing still⟩⟩, lamp⟩

theorem agrees_endAfterDischarge {s : State} (lane : LaneSound s.lane) (counter : CounterSound s.counter) (lamp : LampTrue s)
    (still : ¬ Discharges s.lane) : Agrees (endAfterDischarge s) := by
  have ended := agrees_quietEnd lane counter lamp still
  unfold endAfterDischarge
  dsimp only
  split
  · split
    · exact ended.refuseRequest _ _
    · exact ended
  · exact ended

theorem releaseGoesOn_group {s : State} (h : releaseGoesOn s = true) : s.counter.group.isSome = true := by
  unfold releaseGoesOn at h
  split at h
  · rename_i g _ group _
    simp [group]
  · cases h

/-- A completion is taken by a Counter Interface that was discharging, on a lane whose zone Z has become EMPTY (R139). -/
theorem agrees_completionTaken {s : State} (r : LaneRecord) (lane : LaneSound s.lane) (counter : CounterSound s.counter)
    (lamp : LampTrue s) (discharging : s.counter.release = .discharging) (still : ¬ Discharges s.lane) :
    Agrees (completionTaken r s) := by
  unfold completionTaken
  dsimp only
  split
  · rename_i goesOn
    have sound : CounterSound { s.counter with count := bump 255 s.counter.count, release := .waiting } :=
      ⟨nofun, fun _ => releaseGoesOn_group goesOn, counter.button⟩
    have taken : Agrees { s with counter := { s.counter with count := bump 255 s.counter.count, release := .waiting } } :=
      ⟨⟨lane, sound, ⟨nofun, fun passing => absurd passing still⟩⟩, lamp⟩
    exact taken.raise _ _
  · refine agrees_endAfterDischarge lane ?_ lamp still
    exact ⟨fun idle => absurd (discharging.symm.trans idle) nofun, fun waiting => absurd (discharging.symm.trans waiting) nofun,
      counter.button⟩

/-! ### Discharges -/

theorem zone_dischargedLane {l : Lane} (low : 2 ≤ l.zoneCount) (high : l.zoneCount ≤ 8) :
    zone (dischargedLane l) l.zoneCount = emptyZone := zone_putZone_self l emptyZone (by omega) high

theorem laneSound_dischargedLane {l : Lane} (h : LaneSound l) (passing : Discharges l) : LaneSound (dischargedLane l) := by
  have low := h.low
  refine h.putLast passing.1 _ (zoneOwn_empty _ _) ⟨nofun, fun behind => ?_⟩ ⟨nofun, nofun⟩
  have link := (h.link (l.zoneCount - 1) (by omega) (by omega)).mpr behind
  rw [show l.zoneCount - 1 + 1 = l.zoneCount by omega, passing.2] at link
  cases link

theorem agrees_completeDischarge {s : State} (h : Sound s) (passing : Discharges s.lane) : Agrees (completeDischarge s) := by
  have emptied := laneSound_dischargedLane h.lane passing
  have still : ¬ Discharges (dischargedLane s.lane) := fun discharges =>
    absurd ((congrArg Zone.state (zone_dischargedLane h.lane.low h.lane.high)).symm.trans discharges.2) nofun
  have lamp : LampTrue (evalReady { s with lane := dischargedLane s.lane }) := by
    rw [LampTrue, (evalReady_keeps _).2.2, (evalReady_keeps _).1]
  have low := h.lane.low
  have recorded := (h.lane.own s.lane.zoneCount (by omega) le_rfl).last (Nat.lt_irrefl _) passing.2
  unfold completeDischarge
  dsimp only
  split
  · refine agrees_completionTaken _ ?_ ?_ lamp ?_ ?_
    · rwa [evalReady_lane]
    · rw [(evalReady_keeps _).2.2]
      exact ⟨h.counter.idle, h.counter.waiting, h.counter.button⟩
    · rw [(evalReady_keeps _).2.2]
      exact h.discharging.mpr passing
    · rwa [evalReady_lane]
  · rename_i none
    rw [none] at recorded
    cases recorded

/-- The lane as a discharge starts: zone Z passes its record and the timer runs (R126). -/
theorem laneSound_discharging {l : Lane} (h : LaneSound l) (free : l.state ≠ .jammed) (held : (zone l l.zoneCount).state = .held)
    (timer : Timer) :
    LaneSound { putZone l.zoneCount { zone l l.zoneCount with state := .passing } l with discharge := some timer } := by
  have low := h.low
  have own := h.own l.zoneCount (by omega) le_rfl
  have unmarked : (zone l l.zoneCount).partEnded = false := by
    by_contra marked
    exact absurd (held.symm.trans (own.mark (by simpa using marked)).1) nofun
  have untimed : (zone l l.zoneCount).timer = none := by
    by_contra timed
    exact absurd (held.symm.trans (own.timer (Option.isSome_iff_ne_none.mpr timed)).1) nofun
  refine h.putLast free l.lateTimeout ?_ ⟨nofun, fun behind => ?_⟩ ⟨fun _ => rfl, fun _ => rfl⟩
  · refine ⟨nofun, nofun, fun marked => absurd (marked.symm.trans unmarked) nofun, fun timed => ?_, fun _ _ => own.held held,
      fun _ inner => absurd inner id, fun _ => untimed⟩
    rw [show ({ zone l l.zoneCount with state := ZoneState.passing } : Zone).timer = none from untimed] at timed
    cases timed
  · have link := (h.link (l.zoneCount - 1) (by omega) (by omega)).mpr behind
    rw [show l.zoneCount - 1 + 1 = l.zoneCount by omega, held] at link
    cases link

/-- A discharge starts at a HELD zone Z for a Counter Interface that is set to DISCHARGING (R126). -/
theorem agrees_startDischarge {s : State} (lane : LaneSound s.lane) (counter : CounterSound s.counter)
    (discharging : s.counter.release = .discharging) (free : s.lane.state ≠ .jammed)
    (held : (zone s.lane s.lane.zoneCount).state = .held) : Agrees (startDischarge s) := by
  have passing : Discharges { putZone s.lane.zoneCount { zone s.lane s.lane.zoneCount with state := .passing } s.lane with
      discharge := some ⟨0, s.lane.dischargeLimit * 10⟩ } := by
    have low := lane.low
    exact ⟨free, congrArg Zone.state
      (zone_putZone_self s.lane { zone s.lane s.lane.zoneCount with state := .passing } (by omega) lane.high)⟩
  have started : Sound { s with
      lane := { putZone s.lane.zoneCount { zone s.lane s.lane.zoneCount with state := .passing } s.lane with
        discharge := some ⟨0, s.lane.dischargeLimit * 10⟩ } } :=
    ⟨laneSound_discharging lane free held _, counter, ⟨fun _ => passing, fun _ => discharging⟩⟩
  unfold startDischarge
  dsimp only
  split
  · exact started.evalReady
  · exact agrees_completeDischarge started.evalReady.toSound (by rw [evalReady_lane]; exact passing)

theorem requestRefusal_eq_none {l : Lane} (h : requestRefusal l = none) :
    l.state = .running ∧ (zone l l.zoneCount).state = .held := by
  unfold requestRefusal at h
  split at h
  · cases h
  · cases h
  · rename_i running
    split at h
    · cases h
    · rename_i held
      exact ⟨running, not_not.mp held⟩

/-- A request in IDLE is refused or starts a discharge (R137). -/
theorem Agrees.idleRequest {s : State} (h : Agrees s) (n : Nat) : Agrees (idleRequest n s) := by
  unfold Machine.idleRequest
  split
  · exact h.refuseRequest _ _
  · rename_i free
    obtain ⟨running, held⟩ := requestRefusal_eq_none free
    exact agrees_startDischarge h.lane ⟨nofun, nofun, h.counter.button⟩ rfl (fun jammed => absurd (running.symm.trans jammed) nofun) held

theorem Agrees.releaseRequest {s : State} (h : Agrees s) (n : Nat) : Agrees (releaseRequest n s) := by
  unfold Machine.releaseRequest
  split
  · exact h.idleRequest n
  · rename_i state
    exact h.counter_same ⟨fun idle => absurd (state.symm.trans idle) nofun, h.counter.waiting, h.counter.button⟩ rfl rfl
  · rename_i state
    exact h.counter_same ⟨fun idle => absurd (state.symm.trans idle) nofun, h.counter.waiting, h.counter.button⟩ rfl rfl

/-- A release ends in WAITING, and a pending press is taken anew (R140). -/
theorem Agrees.endInWaiting {s : State} (h : Agrees s) (still : ¬ Discharges s.lane) : Agrees (endInWaiting s) := by
  have ended := agrees_quietEnd h.lane h.counter h.lamp still
  unfold Machine.endInWaiting
  dsimp only
  split
  · exact ended.idleRequest 2
  · exact ended

/-- Zone Z has become HELD (R140). -/
theorem Agrees.zoneZHeld {s : State} (h : Agrees s) (held : (zone s.lane s.lane.zoneCount).state = .held) : Agrees (zoneZHeld s) := by
  have still : ¬ Discharges s.lane := fun passing => absurd (held.symm.trans passing.2) nofun
  unfold Machine.zoneZHeld
  split
  · rename_i waiting
    split
    · split
      · rename_i goes
        have sound : CounterSound { s.counter with release := .discharging } := ⟨nofun, nofun, h.counter.button⟩
        exact agrees_startDischarge h.lane sound rfl (fun jammed => absurd (goes.2.symm.trans jammed) nofun) held
      · exact h.endInWaiting still
    · exact h.endInWaiting still
  · exact h

/-! ### Jams -/

theorem Agrees.jam {s : State} (h : Agrees s) (detail : Nat) (r : Option LaneRecord) (k : Nat) : Agrees (jam detail r k s) := by
  have stopped : Sound { s with lane := { stopTimers s.lane with state := .jammed }, counter := quietEnd s.counter } :=
    ⟨h.lane.jam, h.counter.quietEnd, ⟨nofun, fun passing => absurd rfl passing.1⟩⟩
  unfold Machine.jam
  dsimp only
  split <;> exact stopped.evalReady.raise _ _

/-! ### Entries and transfers -/

/-- Whether zone Z discharges does not depend on a zone before it. -/
theorem discharges_putZone_inner {l : Lane} {k : Nat} (z : Zone) (low : 1 ≤ k) (inside : k < l.zoneCount) :
    Discharges (putZone k z l) ↔ Discharges l := by
  unfold Discharges
  rw [putZone_zoneCount, zone_putZone_of_ne l z (by omega) (by omega) low, putZone_state]

/-- Zone 1 is exchanged for one that passes nothing, where it awaits a tote. -/
theorem Sound.putFirst {s : State} (h : Sound s) {z : Zone} (awaits : (zone s.lane 1).state = .empty ∨ (zone s.lane 1).state = .filling)
    (own : ZoneOwn True (s.lane.state ≠ .jammed) z) (still : z.state ≠ .passing) : Sound { s with lane := putZone 1 z s.lane } := by
  have low := h.lane.low
  refine h.lane_same (h.lane.putInner le_rfl (by omega) own (fun second => by omega) ⟨fun passes => absurd passes.1 still, fun passes => ?_⟩)
    (discharges_putZone_inner z le_rfl (by omega))
  rcases awaits with state | state <;> exact absurd (state.symm.trans passes.1) nofun

/-- The inbound list takes no part in the agreement. -/
theorem Sound.inbound {s : State} (h : Sound s) (inbound : List InboundRecord) :
    Sound { s with lane := { s.lane with inbound := inbound } } :=
  h.lane_same (h.lane.congr rfl rfl rfl rfl rfl) Iff.rfl

theorem Agrees.inbound {s : State} (h : Agrees s) (inbound : List InboundRecord) :
    Agrees { s with lane := { s.lane with inbound := inbound } } :=
  ⟨h.toSound.inbound inbound, h.lamp.trans
    (readyHolds_congr (l := s.lane) (m := { s.lane with inbound := inbound }) rfl rfl rfl fun _ _ => rfl).symm⟩

theorem Sound.of_same {s t : State} (h : Sound s) (lane : t.lane = s.lane) (counter : t.counter = s.counter) : Sound t := by
  obtain ⟨sound, counterSound, discharging⟩ := h
  refine ⟨lane ▸ sound, counter ▸ counterSound, ?_⟩
  rwa [lane, counter]

/-- An entry at a zone 1 that awaits a tote (R118). -/
theorem Sound.enterZone1 {s : State} (h : Sound s) (awaits : (zone s.lane 1).state = .empty ∨ (zone s.lane 1).state = .filling) :
    Agrees (enterZone1 s) := by
  have entered : ∀ r, Sound { s with lane := putZone 1 ⟨.held, some r, false, none⟩ s.lane } := fun r =>
    h.putFirst awaits (zoneOwn_held _ _ r) nofun
  unfold Machine.enterZone1
  split
  · rename_i r rest _
    exact ((entered r.record).inbound rest |>.of_same (raise_lane _ _ _) (raise_counter _ _ _)).evalReady
  · exact ((entered anonymousRecord).of_same (by rw [(trim_lane _).1, raise_lane]) (by rw [(trim_lane _).2, raise_counter])).evalReady

/-- The zone behind a tote that has moved on (R123). -/
theorem zoneOwn_moved {free : Prop} {z : Zone} (own : ZoneOwn True free z) (passing : z.state = .passing) :
    ZoneOwn True free (transferPart { z with record := none }) ∧ (transferPart { z with record := none }).state ≠ .filling ∧
      (transferPart { z with record := none }).record = none := by
  unfold transferPart
  split
  · exact ⟨zoneOwn_empty _ _, nofun, rfl⟩
  · rename_i unended
    refine ⟨⟨fun held => absurd (passing.symm.trans held) nofun, fun _ => rfl, fun marked => absurd ?_ unended, own.timer,
      fun outer => absurd trivial outer, own.runs, own.stops⟩, fun filling => absurd (passing.symm.trans filling) nofun, rfl⟩
    simpa using marked

/-- The zone behind a tote whose first part is taken (R123). -/
theorem zoneOwn_cleared {free : Prop} {z : Zone} (own : ZoneOwn True free z) (passing : z.state = .passing) :
    ZoneOwn True free (transferPart { z with partEnded := true }) ∧ (transferPart { z with partEnded := true }).state ≠ .filling ∧
      (Passes (transferPart { z with partEnded := true }) ↔ Passes z) := by
  unfold transferPart
  split
  · rename_i moved
    refine ⟨zoneOwn_empty _ _, nofun, ⟨fun passes => absurd passes.1 nofun, fun passes => ?_⟩⟩
    have gone : z.record = none := Option.isNone_iff_eq_none.mp (Bool.and_eq_true_iff.mp moved).1
    rw [Passes, gone] at passes
    cases passes.2
  · rename_i stands
    have recorded : z.record.isSome = true := by simpa [Option.isNone_iff_eq_none, Option.isSome_iff_ne_none] using stands
    exact ⟨⟨own.held, own.absent, fun _ => ⟨passing, recorded⟩, own.timer, fun outer => absurd trivial outer, own.runs, own.stops⟩,
      fun filling => absurd (passing.symm.trans filling) nofun, Iff.rfl⟩

/-- Whether zone Z discharges, after two neighbours were exchanged. -/
theorem discharges_putPair {l : Lane} {k : Nat} (a b : Zone) (low : 1 ≤ k) (inside : k < l.zoneCount) (high : l.zoneCount ≤ 8)
    (last : k + 1 = l.zoneCount → (b.state = .passing ↔ (zone l (k + 1)).state = .passing)) :
    Discharges (putZone (k + 1) b (putZone k a l)) ↔ Discharges l := by
  rcases Nat.lt_or_ge (k + 1) l.zoneCount with inner | outer
  · rw [discharges_putZone_inner b (by omega) (by exact inner), discharges_putZone_inner a low inside]
  · have same : k + 1 = l.zoneCount := by omega
    unfold Discharges
    simp only [putZone_zoneCount, putZone_state, ← same]
    rw [zone_putZone_self _ b (by omega) (by omega), last same]

/-- The tote of a transfer arrives at zone k + 1 (R123). -/
theorem Sound.arrive {s : State} (h : Sound s) {k : Nat} (low : 1 ≤ k) (inside : k < s.lane.zoneCount)
    (filling : (zone s.lane (k + 1)).state = .filling) : Agrees (arrive (k + 1) s) := by
  obtain ⟨passing, recorded⟩ := (h.lane.link k low inside).mp filling
  obtain ⟨r, stands⟩ := Option.isSome_iff_exists.mp recorded
  have own := h.lane.own k low inside.le
  rw [eq_true inside] at own
  obtain ⟨ownMoved, notFilling, gone⟩ := zoneOwn_moved own passing
  have last : k + 1 = s.lane.zoneCount →
      ((⟨.held, some r, false, none⟩ : Zone).state = .passing ↔ (zone s.lane (k + 1)).state = .passing) := fun _ =>
    ⟨nofun, fun passing => absurd (filling.symm.trans passing) nofun⟩
  have moved : Sound { s with lane := (putZone (k + 1) ⟨.held, some r, false, none⟩
      (putZone k (transferPart { zone s.lane k with record := none }) s.lane)) } := by
    refine h.lane_same (h.lane.putPair low inside ownMoved (zoneOwn_held _ _ r) (fun second => ?_) ?_ (fun inner => ?_) last)
      (discharges_putPair _ _ low inside h.lane.high last)
    · refine ⟨fun filling => absurd filling notFilling, fun passes => ?_⟩
      have link := (h.lane.link (k - 1) (by omega) (by omega)).mpr passes
      rw [show k - 1 + 1 = k by omega, passing] at link
      cases link
    · refine ⟨nofun, fun passes => ?_⟩
      rw [Passes, gone] at passes
      cases passes.2
    · exact ((h.lane.link (k + 1) (by omega) inner).trans ⟨fun passes => absurd (filling.symm.trans passes.1) nofun,
        fun passes => absurd passes.1 nofun⟩)
  unfold Machine.arrive
  rw [Nat.add_sub_cancel, stands]
  dsimp only
  split
  · rename_i first
    refine moved.evalReady.zoneZHeld ?_
    rw [evalReady_lane]
    simp only [putZone_zoneCount, ← first]
    rw [zone_putZone_self _ _ (by omega) (by have := h.lane.high; omega)]
  · exact moved.evalReady

/-- A transfer that is due starts (R122, R123). -/
theorem Sound.startTransfer {s : State} (h : Sound s) {k : Nat} (low : 1 ≤ k) (due : transferDue s.lane k = true) :
    Agrees (startTransfer k s) := by
  obtain ⟨free, inside, held, empty⟩ := (transferDue_iff _ _).mp due
  have high := h.lane.high
  have own := h.lane.own k low inside.le
  rw [eq_true inside] at own
  have ownNext := h.lane.own (k + 1) (by omega) (by omega)
  have recorded := own.held held
  have ownPassing : ZoneOwn True (s.lane.state ≠ .jammed) { zone s.lane k with
      state := .passing, partEnded := !zoneBlocked s k, timer := some ⟨0, s.lane.transferLimit * 10⟩ } :=
    ⟨nofun, nofun, fun _ => ⟨rfl, recorded⟩, fun _ => ⟨rfl, trivial⟩, fun outer => absurd trivial outer, fun _ _ _ => rfl,
      fun jammed => absurd free jammed⟩
  have last : k + 1 = s.lane.zoneCount →
      (({ zone s.lane (k + 1) with state := .filling } : Zone).state = .passing ↔ (zone s.lane (k + 1)).state = .passing) :=
    fun _ => ⟨nofun, fun passing => absurd (empty.symm.trans passing) nofun⟩
  have started : Sound { s with lane := (putZone (k + 1) { zone s.lane (k + 1) with state := .filling }
      (putZone k { zone s.lane k with
        state := .passing, partEnded := !zoneBlocked s k, timer := some ⟨0, s.lane.transferLimit * 10⟩ } s.lane)) } := by
    refine h.lane_same (h.lane.putPair low inside ownPassing (ownNext.awaiting (.inl empty) (.inr rfl)) (fun second => ?_)
      ⟨fun _ => ⟨rfl, recorded⟩, fun _ => rfl⟩ (fun inner => ?_) last) (discharges_putPair _ _ low inside high last)
    · refine ⟨nofun, fun passes => ?_⟩
      have link := (h.lane.link (k - 1) (by omega) (by omega)).mpr passes
      rw [show k - 1 + 1 = k by omega, held] at link
      cases link
    · exact (h.lane.link (k + 1) (by omega) inner).trans ⟨fun passes => absurd (empty.symm.trans passes.1) nofun,
        fun passes => absurd passes.1 nofun⟩
  unfold Machine.startTransfer
  dsimp only
  split
  · refine started.evalReady.toSound.arrive low ?_ ?_ <;> rw [evalReady_lane]
    · exact inside
    · rw [zone_putZone_self _ _ (by omega) (by omega)]
  · exact started.evalReady

/-! ### What the lane does of itself -/

/-- Zone 1 follows the inbound list (R117). -/
theorem Sound.zone1Follows {s : State} (h : Sound s) (awaits : (zone s.lane 1).state = .empty ∨ (zone s.lane 1).state = .filling)
    {state : ZoneState} (still : state = .empty ∨ state = .filling) :
    Sound { s with lane := putZone 1 { zone s.lane 1 with state := state } s.lane } := by
  have low := h.lane.low
  have own := h.lane.own 1 le_rfl (by omega)
  rw [eq_true (by omega : 1 < s.lane.zoneCount)] at own
  refine h.putFirst awaits (own.awaiting awaits still) ?_
  rintro rfl
  rcases still with state | state <;> cases state

theorem Agrees.laneRule {s t : State} (h : Agrees s) (rule : laneRule s = some t) : Agrees t := by
  have high := h.lane.high
  rcases laneRule_cases rule with ⟨r, rest, empty, waits, rfl⟩ | ⟨filling, none, rfl⟩ | ⟨k, low, -, due, rfl⟩
  · have fills := (h.toSound.zone1Follows (.inl empty) (state := .filling) (.inr rfl)).evalReady
    unfold zone1Fills
    dsimp only
    split
    · refine fills.toSound.enterZone1 (.inr ?_)
      rw [evalReady_lane, zone_putZone_self _ _ le_rfl (by omega)]
    · exact fills
  · exact (h.toSound.zone1Follows (.inr filling) (.inl rfl)).evalReady
  · exact h.toSound.startTransfer low due

theorem Agrees.settleLane {s : State} (h : Agrees s) : Agrees (settleLane s) := settleLane_keeps Agrees.laneRule h

/-! ### The rescan -/

theorem dropExcess_lane (s : State) :
    ∃ inbound, (dropExcess s).lane = { s.lane with inbound := inbound } ∧ (dropExcess s).counter = s.counter := by
  rcases dropExcess_cases s with ⟨same, -⟩ | ⟨-, same⟩ <;> rw [same]
  · exact ⟨s.lane.inbound, rfl, rfl⟩
  · exact ⟨_, raiseAll_lane _ _ _, raiseAll_counter _ _ _⟩

/-- The lane of a rescan: the zones as set from their eyes, with what is left of the list. -/
theorem rescan_lane (s : State) :
    ∃ inbound, (rescan s).lane = { rescanZones s with inbound := inbound } ∧ (rescan s).counter = s.counter := by
  obtain ⟨inbound, lane, counter⟩ := dropExcess_lane (trim { s with lane := rescanZones s })
  refine ⟨inbound, lane.trans ?_, counter.trans (trim_lane _).2⟩
  rw [(trim_lane _).1]

/-- A rescan leads to agreement when no discharge is under way in the Counter Interface. -/
theorem sound_rescan {s : State} (low : 2 ≤ s.lane.zoneCount) (high : s.lane.zoneCount ≤ 8) (counter : CounterSound s.counter)
    (still : s.counter.release ≠ .discharging) (state : LaneState) :
    Sound { rescan s with lane := { (rescan s).lane with state := state } } := by
  obtain ⟨inbound, lane, same⟩ := rescan_lane s
  have sound := laneSound_rescanned low high state inbound
  refine ⟨?_, same ▸ counter, ?_⟩
  · rw [lane]
    exact sound
  · rw [lane, same]
    refine ⟨fun discharging => absurd discharging still, fun passing => ?_⟩
    exact absurd passing.2 (zone_rescanZones_still s (by exact Nat.le_trans (by omega) low) high)

end Sys2Proof.Machine
end

section
/-! SUPPORT. Every event leads from agreement to agreement: zone eyes, timers, entries, settings and resets. -/

namespace Sys2Proof.Machine

/-! ### Rescans -/

theorem agrees_rescanInPlace {s : State} (low : 2 ≤ s.lane.zoneCount) (high : s.lane.zoneCount ≤ 8) (counter : CounterSound s.counter)
    (still : s.counter.release ≠ .discharging) : Agrees (rescanInPlace s) := by
  have rescanned : Agrees (evalReady (rescan s)) := (sound_rescan low high counter still (rescan s).lane.state).evalReady
  unfold rescanInPlace
  dsimp only
  split
  · rename_i held
    exact (rescanned.zoneZHeld held).settleLane
  · exact rescanned.settleLane

theorem agrees_rescanToRunning {s : State} (h : Agrees s) (jammed : s.lane.state = .jammed) : Agrees (rescanToRunning s) :=
  (sound_rescan h.lane.low h.lane.high h.counter (fun discharging => (h.discharging.mp discharging).1 jammed) .running).evalReady.settleLane

theorem counterSound_resetCounter (mode : ReleaseMode) (button : Bool) : CounterSound (resetCounter mode button) := by
  refine ⟨fun _ => ⟨rfl, rfl, rfl⟩, nofun, ⟨nofun, fun timing => ?_⟩⟩
  cases button <;> cases timing

/-! ### Zone eyes -/

/-- A clear at a PASSING zone below Z takes the first part of its transfer (R123). -/
theorem Agrees.firstPart {s : State} (h : Agrees s) {k : Nat} (low : 1 ≤ k) (inside : k < s.lane.zoneCount)
    (passing : (zone s.lane k).state = .passing) :
    Agrees (evalReady { s with lane := putZone k (transferPart { zone s.lane k with partEnded := true }) s.lane }) := by
  have own := h.lane.own k low inside.le
  rw [eq_true inside] at own
  obtain ⟨ownCleared, notFilling, passes⟩ := zoneOwn_cleared own passing
  refine Sound.evalReady (h.lane_same (h.lane.putInner low inside ownCleared (fun second => ?_) passes)
    (discharges_putZone_inner _ low inside))
  refine ⟨fun filling => absurd filling notFilling, fun behind => ?_⟩
  have link := (h.lane.link (k - 1) (by omega) (by omega)).mpr behind
  rw [show k - 1 + 1 = k by omega, passing] at link
  cases link

/-- A block at a PASSING zone below Z clears its mark (R123). -/
theorem Agrees.markCleared {s : State} (h : Agrees s) {k : Nat} (low : 1 ≤ k) (inside : k < s.lane.zoneCount) :
    Agrees { s with lane := putZone k { zone s.lane k with partEnded := false } s.lane } := by
  have high := h.lane.high
  have own := h.lane.own k low inside.le
  rw [eq_true inside] at own
  have ownUnmarked : ZoneOwn True (s.lane.state ≠ .jammed) { zone s.lane k with partEnded := false } :=
    ⟨own.held, own.absent, nofun, own.timer, own.last, own.runs, own.stops⟩
  refine ⟨h.lane_same (h.lane.putInner low inside ownUnmarked (fun second => ?_) Iff.rfl) (discharges_putZone_inner _ low inside),
    h.lamp.trans (readyHolds_congr (l := s.lane) (m := putZone k { zone s.lane k with partEnded := false } s.lane) rfl rfl ?_
      fun j lowJ => ?_).symm⟩
  · have link := h.lane.link (k - 1) (by omega) (by omega)
    rwa [show k - 1 + 1 = k by omega] at link
  · rw [zone_putZone_of_ne _ _ (by omega) (by omega) low]
  · rw [zone_putZone _ _ lowJ low (by omega)]
    split
    · rename_i same
      rw [same]
    · rfl

theorem Agrees.zoneKBlocked {s : State} (h : Agrees s) {k : Nat} (low : 2 ≤ k) (inside : k ≤ s.lane.zoneCount) :
    Agrees (zoneKBlocked k s) := by
  unfold Machine.zoneKBlocked
  split
  · exact h.jam _ _ _
  · rename_i filling
    have arrived := h.toSound.arrive (k := k - 1) (by omega) (by omega) (by rwa [show k - 1 + 1 = k by omega])
    rwa [show k - 1 + 1 = k by omega] at arrived
  · exact h
  · split
    · exact h.markCleared (by omega) ‹_›
    · exact h

theorem Agrees.zoneCleared {s : State} (h : Agrees s) (free : s.lane.state ≠ .jammed) {k : Nat} (low : 1 ≤ k)
    (inside : k ≤ s.lane.zoneCount) : Agrees (zoneCleared k s) := by
  unfold Machine.zoneCleared
  split
  · exact h
  · exact h
  · exact h
  · rename_i passing
    split
    · exact h.firstPart low ‹_› passing
    · have last : k = s.lane.zoneCount := by omega
      exact agrees_completeDischarge h.toSound ⟨free, last ▸ passing⟩

theorem Agrees.zoneChanged {s : State} (h : Agrees s) {k : Nat} (low : 1 ≤ k) (blocked : Bool) : Agrees (zoneChanged k blocked s) := by
  unfold Machine.zoneChanged
  split
  · exact h
  · rename_i acts
    obtain ⟨inside, free⟩ := not_or.mp acts
    refine Agrees.settleLane ?_
    split
    · split
      · unfold zone1Blocked
        split
        · exact h.toSound.enterZone1 (.inl ‹_›)
        · exact h.toSound.enterZone1 (.inr ‹_›)
        · exact h.jam _ _ _
        · exact h.jam _ _ _
      · exact h.zoneKBlocked (by omega) (by omega)
    · exact h.zoneCleared free low (by omega)

/-! ### Entries into the inbound list -/

theorem Agrees.decideTote {s : State} (h : Agrees s) (m : Option ToteFields) (lead : Pos) : Agrees (decideTote m lead s).1 := by
  have appended : ∀ t carried (u : State), Agrees u → Agrees (appendInbound t carried lead u) := fun t carried u agrees =>
    agrees.inbound _
  rcases decideTote_cases m lead s with ⟨-, off⟩ | ⟨-, n, same⟩ | ⟨how, -, -, same⟩
  · exact h.of_same ⟨off.lane, off.counter⟩
  · rw [same]
    exact (((appended _ true s h).of_same (trim_lane _)).raise _ _).settleLane
  · rw [same]
    have committed := appended (m.getD anonymousFields) false { s with diverter := commitVerdict (verdict lead s) s.belt.pos s.diverter }
      (h.of_same ⟨rfl, rfl⟩)
    exact (committed.of_same ⟨(commitReservation_cases _ _ _ _).1, (commitReservation_cases _ _ _ _).2.1⟩).settleLane

/-! ### SET LANE -/

/-- A lane that holds no record holds none in any zone. -/
theorem record_eq_none_of_heldUpTo {l : Lane} {n : Nat} (none_held : heldUpTo l n = 0) :
    ∀ k, 1 ≤ k → k ≤ n → (zone l k).record = none := by
  induction n with
  | zero =>
    intro k low high
    omega
  | succ n ih =>
    intro k low high
    rw [heldUpTo_succ] at none_held
    rcases Nat.le_succ_iff.mp high with below | rfl
    · exact ih (by omega) k low below
    · cases stands : (zone l (n + 1)).record with
      | none => rfl
      | some r =>
        rw [holdsOne_of_some stands] at none_held
        omega

/-- A lane of EMPTY zones without a discharge agrees. -/
theorem laneSound_of_empty {l : Lane} (low : 2 ≤ l.zoneCount) (high : l.zoneCount ≤ 8) (empty : ∀ k, zone l k = emptyZone)
    (discharge : l.discharge = none) (late : l.lateTimeout = false) : LaneSound l where
  low := low
  high := high
  own k _ _ := by
    rw [empty k]
    exact zoneOwn_empty _ _
  link k _ _ := by
    rw [empty k, empty (k + 1)]
    exact ⟨nofun, fun passes => absurd passes.1 nofun⟩
  above k _ := empty k
  jammed _ := ⟨discharge, late⟩
  discharge _ := by
    rw [empty, discharge]
    exact ⟨nofun, nofun⟩

/-- The lane under the settings of a SET LANE that is not refused agrees (R131). -/
theorem Agrees.newLane {s : State} (h : Agrees s) {fs : List Byte} (right : laneStructure fs = true)
    (free : laneBusy fs s.lane = false) (mode : ReleaseMode) (polarity : EyePolarity) :
    Sound { s with lane := newLane fs mode polarity s.lane } := by
  obtain ⟨low, high, -⟩ := (laneStructure_iff fs).mp right
  by_cases same : s.lane.zoneCount = field1 fs 0
  · have settings : Machine.newLane fs mode polarity s.lane = laneSettings fs mode polarity s.lane := by
      simp only [Machine.newLane, newZoneCount, if_pos same]
    rw [settings]
    refine h.lane_same (h.lane.congr rfl same.symm rfl rfl rfl) ?_
    unfold Discharges
    rw [same]
    rfl
  · have none_held := (laneBusy_eq_false free).resolve_left fun kept => same kept.1.symm
    have still : ¬ Discharges s.lane := fun passing => by
      have zones := h.lane.low
      have recorded := (h.lane.own s.lane.zoneCount (by omega) le_rfl).last (Nat.lt_irrefl _) passing.2
      rw [record_eq_none_of_heldUpTo none_held.1 s.lane.zoneCount (by omega) le_rfl] at recorded
      cases recorded
    have empty : ∀ k, zone (Machine.newLane fs mode polarity s.lane) k = emptyZone := zone_newLane_other same mode polarity
    refine h.lane_same (laneSound_of_empty low high empty ?_ ?_)
      ⟨fun passing => absurd (passing.2.symm.trans (congrArg Zone.state (empty _))) nofun, fun passing => absurd passing still⟩
    · simp only [Machine.newLane, newZoneCount, if_neg same, laneSettings]
    · simp only [Machine.newLane, newZoneCount, if_neg same, laneSettings]

/-! ### Every event -/

/-- Every event leads from agreement to agreement. -/
theorem agrees_kept : KeptByEvents Agrees := by
  refine keptByEvents_of_lane (fun h same => h.of_same same) (entries := fun {s} h => ?entries)
    (powerUp := fun enc levels s => ?powerUp) (resetBlocks := fun {s} h => ?resetBlocks)
    (decide := fun h m lead => h.decideTote m lead) (zoneEye := fun h k low _ blocked => h.zoneChanged low blocked)
    (transferRunsOut := fun {s} h k => ?transfer) (dischargeRunsOut := fun {s} h => ?discharge)
    (button := fun {s} h level => ?button) (press := fun {s} h => ?press) (lamp := fun {s} h => ?lamp)
    (tick := fun {s} h => ?tick) (setLane := fun {s} h fs => ?setLane)
    (running := fun h jammed => agrees_rescanToRunning h jammed) (pause := fun {s} h => ?pause)
    (resume := fun {s} h => ?resume) (release := fun h => (h.releaseRequest 1).settleLane)
  case entries =>
    unfold takeEntries
    split
    · exact ((h.inbound _).raiseAll _ _).settleLane
    · exact h
  case powerUp =>
    unfold powerUp
    refine agrees_rescanInPlace (show 2 ≤ State.reset.lane.zoneCount by decide) (show State.reset.lane.zoneCount ≤ 8 by decide)
      ⟨fun _ => ⟨rfl, rfl, rfl⟩, nofun, ⟨nofun, fun timing => ?_⟩⟩ nofun
    have sampled : sampledButton levels.relBtn = .timing := timing
    cases level : levels.relBtn <;> rw [level] at sampled <;> cases sampled
  case resetBlocks =>
    unfold resetBlocks
    exact agrees_rescanInPlace h.lane.low h.lane.high (counterSound_resetCounter _ _) nofun
  case transfer =>
    unfold transferRunsOut
    split
    · exact h
    · exact (h.jam _ _ _).settleLane
  case discharge =>
    unfold dischargeRunsOut
    split
    · exact h
    · exact (h.jam _ _ _).settleLane
  case button =>
    have pin : Agrees { s with pins := { s.pins with relBtn := level } } := h.of_same ⟨rfl, rfl⟩
    unfold buttonTakes
    dsimp only
    split
    · exact pin
    · split
      · exact pin.counter_same ⟨h.counter.idle, h.counter.waiting, ⟨fun _ => rfl, fun _ => rfl⟩⟩ rfl rfl
      · exact pin.counter_same ⟨h.counter.idle, h.counter.waiting, ⟨nofun, nofun⟩⟩ rfl rfl
      · rename_i spent
        refine pin.counter_same ⟨h.counter.idle, h.counter.waiting, ⟨fun timed => ?_, nofun⟩⟩ rfl rfl
        exact absurd (spent.symm.trans (h.counter.button.mp timed)) nofun
      all_goals exact pin
  case press =>
    unfold pressTaken
    split
    · exact h
    · have spent : Agrees { s with counter := { s.counter with button := .spent, buttonTimer := none } } :=
        h.counter_same ⟨h.counter.idle, h.counter.waiting, ⟨nofun, nofun⟩⟩ rfl rfl
      exact (spent.releaseRequest 0).settleLane
  case lamp =>
    unfold waitLampOut
    split
    · exact h
    · exact h.counter_same ⟨h.counter.idle, h.counter.waiting, h.counter.button⟩ rfl rfl
  case tick =>
    have still : ∀ k, 1 ≤ k → zone (tickTimers s).lane k = { zone s.lane k with timer := (zone s.lane k).timer.map Timer.next } :=
      fun k low => zone_tickTimers s low
    have low := h.lane.low
    have last : (zone (tickTimers s).lane s.lane.zoneCount).state = (zone s.lane s.lane.zoneCount).state := by
      rw [still _ (by omega)]
    refine ⟨⟨laneSound_tickTimers h.lane, ⟨h.counter.idle, h.counter.waiting, ?_⟩, ?_⟩,
      h.lamp.trans (readyHolds_congr (l := s.lane) (m := (tickTimers s).lane) rfl rfl last fun k lowK => by rw [still k lowK]).symm⟩
    · show (s.counter.buttonTimer.map (· + 1)).isSome = true ↔ s.counter.button = .timing
      rw [Option.isSome_map]
      exact h.counter.button
    · have same : Discharges (tickTimers s).lane ↔ Discharges s.lane := by
        unfold Discharges
        exact and_congr Iff.rfl (by rw [← last]; rfl)
      exact h.discharging.trans same.symm
  case setLane =>
    rcases takeLane_cases fs s with same | ⟨mode, polarity, right, free, taken⟩
    · rwa [same]
    · have settings := h.newLane right free mode polarity
      rcases taken with ⟨-, same⟩ | ⟨-, same⟩ <;> rw [same]
      · exact (settings.of_same (trim_lane _).1 (trim_lane _).2).evalReady.settleLane
      · unfold lanePolarityChanged
        refine agrees_rescanInPlace settings.lane.low settings.lane.high ?_ ?_ <;> dsimp only <;> split
        · exact h.counter.quietEnd
        · exact h.counter
        · exact nofun
        · assumption
  case pause =>
    unfold takePause
    split
    · exact h
    · exact h
    · rename_i running
      have free : s.lane.state ≠ .jammed := fun jammed => absurd (running.symm.trans jammed) nofun
      refine Sound.evalReady (s := { s with lane := { s.lane with state := .paused }, counter := pauseTaken s.counter })
        ⟨h.lane.free free nofun, ?_, ?_⟩
      · dsimp only [pauseTaken]
        split
        · exact h.counter.quietEnd
        · exact h.counter
      · have same : Discharges { s.lane with state := .paused } ↔ Discharges s.lane :=
          and_congr ⟨fun _ => free, fun _ => nofun⟩ Iff.rfl
        refine Iff.trans ?_ (h.discharging.trans same.symm)
        dsimp only [pauseTaken]
        split
        · rename_i waiting
          exact ⟨nofun, fun discharging => absurd (waiting.symm.trans discharging) nofun⟩
        · exact Iff.rfl
  case resume =>
    unfold takeResume
    split
    · exact h
    · exact h
    · rename_i paused
      have free : s.lane.state ≠ .jammed := fun jammed => absurd (paused.symm.trans jammed) nofun
      exact (h.lane_same (l := { s.lane with state := .running }) (h.lane.free free nofun) (and_congr ⟨fun _ => free, fun _ => nofun⟩ Iff.rfl)).evalReady

/-- Settles O59: agreement as a relation of the lane and the Counter Interface, which every event keeps (`Agrees`). -/
theorem laneAgreesWithCounter : Obligations.LaneAgreesWithCounter :=
  fun _ _ lane counter lamp e => agrees_iff.mp (agrees_kept.step (agrees_iff.mpr ⟨lane, counter, lamp⟩) e)

end Sys2Proof.Machine
end

section
/-! SUPPORT. The Diverter Drive, the Eye Unit, the head deadline and the cursors agree with their own states, block by block: each operation of
a block leads from agreement to agreement (R35, R53, R96, Tables 2-2, 2-3 and 6-2). -/

namespace Sys2Proof.Machine

/-! ### The Diverter Drive -/

/-- The Diverter Drive's positions, flag and phase are present as its state says, the phase part case by case. -/
structure DriveSound (d : Diverter) : Prop where
  armed : d.state = .armed → d.fire.isSome = true
  fire : d.fire.isSome = true → d.state = .armed ∨ d.state = .returning
  release : d.release.isSome = true → d.clear.isSome = true
  clear : d.clear.isSome = true → d.release.isSome = true ∨ d.flag = true
  rest : d.state = .rest ∨ d.state = .fault → d.fire = none ∧ d.release = none ∧ d.clear = none ∧ d.flag = false
  throwing : d.state = .throwing → ∃ p, d.phase = some p ∧ p.part = .throwing
  returning : d.state = .returning → ∃ p, d.phase = some p ∧ (p.part = .returning ∨ p.part = .homeWait)
  still : d.state ≠ .throwing → d.state ≠ .returning → d.phase = none

theorem driveSound_iff {d : Diverter} : DriveSound d ↔ DriveAgrees d := by
  have parts : d.phase.map (·.part) = (match d.state with
      | .throwing => some .throwing
      | .returning => if phaseRuns .homeWait d then some .homeWait else some .returning
      | .rest | .armed | .holding | .fault => none) ↔
      (d.state = .throwing → ∃ p, d.phase = some p ∧ p.part = .throwing) ∧
      (d.state = .returning → ∃ p, d.phase = some p ∧ (p.part = .returning ∨ p.part = .homeWait)) ∧
      (d.state ≠ .throwing → d.state ≠ .returning → d.phase = none) := by
    cases state : d.state <;> cases phase : d.phase <;> simp [phaseRuns, phase]
    rename_i p
    cases p.part <;> simp
  constructor
  · rintro ⟨armed, fire, release, clear, rest, throwing, returning, still⟩
    exact ⟨armed, fire, release, clear, rest, parts.mpr ⟨throwing, returning, still⟩⟩
  · rintro ⟨armed, fire, release, clear, rest, phase⟩
    obtain ⟨throwing, returning, still⟩ := parts.mp phase
    exact ⟨armed, fire, release, clear, rest, throwing, returning, still⟩

/-- A running part tells the state. -/
theorem DriveSound.state_of_throwing {d : Diverter} (h : DriveSound d) (runs : phaseRuns .throwing d = true) : d.state = .throwing := by
  by_contra other
  by_cases returns : d.state = .returning
  · obtain ⟨p, phase, part | part⟩ := h.returning returns <;> simp [phaseRuns, phase, part] at runs
  · simp [phaseRuns, h.still other returns] at runs

theorem DriveSound.state_of_returning {d : Diverter} (h : DriveSound d)
    (runs : phaseRuns .returning d = true ∨ phaseRuns .homeWait d = true) : d.state = .returning := by
  by_contra other
  by_cases throws : d.state = .throwing
  · obtain ⟨p, phase, part⟩ := h.throwing throws
    rcases runs with runs | runs <;> simp [phaseRuns, phase, part] at runs
  · rcases runs with runs | runs <;> simp [phaseRuns, h.still throws other] at runs

/-- A throw starts from any state whose clear position belongs to its release or its flag. -/
theorem driveSound_startThrow {d : Diverter} (release : d.release.isSome = true → d.clear.isSome = true)
    (clear : d.clear.isSome = true → d.release.isSome = true ∨ d.flag = true) : DriveSound (startThrow d) :=
  ⟨nofun, nofun, release, clear, fun still => still.elim nofun nofun, fun _ => ⟨_, rfl, rfl⟩, nofun,
    fun other => absurd rfl other⟩

theorem driveSound_startReturn {d : Diverter} (release : d.release.isSome = true → d.clear.isSome = true)
    (clear : d.clear.isSome = true → d.release.isSome = true ∨ d.flag = true) : DriveSound (startReturn d) :=
  ⟨nofun, fun _ => .inr rfl, release, clear, fun still => still.elim nofun nofun, nofun,
    fun _ => ⟨_, rfl, .inl rfl⟩, fun _ other => absurd rfl other⟩

theorem driveSound_homeCheck (d : Diverter) : DriveSound (homeCheck d) := driveSound_startReturn nofun nofun

/-- With a fire position the drive is ARMED, or throws at once. -/
theorem driveSound_enterArmed {d : Diverter} (now : Pos) (release : d.release.isSome = true → d.clear.isSome = true)
    (clear : d.clear.isSome = true → d.release.isSome = true ∨ d.flag = true) (fire : d.fire.isSome = true) :
    DriveSound (enterArmed now d) := by
  obtain ⟨f, stored⟩ := Option.isSome_iff_exists.mp fire
  unfold enterArmed
  rw [stored]
  dsimp only
  split
  · exact driveSound_startThrow release clear
  · exact ⟨fun _ => rfl, fun _ => .inl rfl, release, clear, fun still => still.elim nofun nofun, nofun,
      nofun, fun _ _ => rfl⟩

theorem driveSound_enterHolding {d : Diverter} (now : Pos) (h : DriveSound d) (throwing : d.state = .throwing) :
    DriveSound (enterHolding now d) := by
  have unfired : d.fire = none := by
    by_contra fired
    rcases h.fire (Option.isSome_iff_ne_none.mpr fired) with state | state <;> rw [throwing] at state <;> cases state
  have holds : DriveSound { d with state := .holding, phase := none, duty := d.geometry.holdDuty } :=
    ⟨nofun, fun fired => absurd ((congrArg Option.isSome unfired).symm.trans fired) nofun, h.release, h.clear, fun still => still.elim nofun nofun, nofun, nofun,
      fun _ _ => rfl⟩
  unfold enterHolding
  dsimp only
  split
  · split
    · exact driveSound_startReturn h.release h.clear
    · exact holds
  · exact holds

theorem driveSound_returnComplete {d : Diverter} (now : Pos) (h : DriveSound d) : DriveSound (returnComplete now d) := by
  unfold returnComplete
  split
  · exact driveSound_enterArmed now h.release h.clear ‹_›
  · rename_i unfired
    have none : d.fire = none := by simpa using unfired
    exact ⟨nofun, fun fired => absurd fired unfired, nofun, nofun, fun _ => ⟨none, rfl, rfl, rfl⟩, nofun, nofun, fun _ _ => rfl⟩

/-- A drive in FAULT holds nothing (R108). -/
theorem driveSound_enterFault (detail ran : Nat) (s : State) : DriveSound (enterFault detail ran s).diverter :=
  ⟨nofun, nofun, nofun, nofun, fun _ => ⟨rfl, rfl, rfl, rfl⟩, nofun, nofun, fun _ _ => rfl⟩

/-- Where a tote is committed, the verdict fits the state: an arm from REST, a join or a re-throw from a state under way. -/
theorem verdict_fits {lead : Pos} {s : State} (free : s.diverter.state ≠ .fault) :
    (∀ f, verdict lead s = .arm f → s.diverter.state = .rest) ∧
      (verdict lead s = .join → s.diverter.state ≠ .rest) ∧
      ∀ f, verdict lead s = .rethrow f → s.diverter.state = .returning := by
  unfold verdict
  cases state : s.diverter.state
  case fault => exact absurd state free
  case rest =>
    dsimp only
    split <;> exact ⟨fun _ _ => rfl, nofun, nofun⟩
  case returning =>
    dsimp only
    split
    · exact ⟨nofun, fun _ => nofun, nofun⟩
    · split
      · exact ⟨nofun, nofun, nofun⟩
      · split
        · split
          · exact ⟨nofun, nofun, nofun⟩
          · exact ⟨nofun, nofun, fun _ _ => rfl⟩
        · exact ⟨nofun, nofun, fun _ _ => rfl⟩
  all_goals exact ⟨nofun, fun _ => nofun, nofun⟩

theorem driveSound_commitVerdict {s : State} (h : DriveSound s.diverter) (free : s.diverter.state ≠ .fault) (lead now : Pos) :
    DriveSound (commitVerdict (verdict lead s) now s.diverter) := by
  obtain ⟨arms, joins, rethrows⟩ := verdict_fits (lead := lead) free
  cases decided : verdict lead s with
  | arm f => exact driveSound_enterArmed (d := { s.diverter with fire := some f }) now h.release h.clear rfl
  | join =>
    refine ⟨h.armed, h.fire, nofun, nofun, fun still => ?_, h.throwing, h.returning, h.still⟩
    exact absurd still (not_or.mpr ⟨joins decided, free⟩)
  | rethrow f =>
    have returning := rethrows f decided
    refine ⟨fun _ => rfl, fun _ => .inr returning, nofun, fun _ => .inr rfl, fun still => ?_, h.throwing, h.returning, h.still⟩
    rcases still with state | state <;> exact absurd (returning.symm.trans state) nofun
  | lateLead _ => exact h
  | lateReturn _ => exact h

theorem driveSound_trailingTaken {s : State} (h : DriveSound s.diverter) (trail : Pos) :
    DriveSound (trailingTaken trail s).diverter := by
  have set_ : ∀ r c, s.diverter.state ≠ .rest → s.diverter.state ≠ .fault →
      DriveSound { s.diverter with release := some r, clear := some c, flag := false } := fun r c moved faultless =>
    ⟨h.armed, h.fire, fun _ => rfl, fun _ => .inl rfl, fun still => absurd still (not_or.mpr ⟨moved, faultless⟩), h.throwing, h.returning,
      h.still⟩
  have quiet : s.diverter.state = .rest ∨ s.diverter.state = .fault → DriveSound { s.diverter with flag := false } := by
    intro still
    obtain ⟨fire, release, clear, -⟩ := h.rest still
    refine ⟨h.armed, h.fire, h.release, fun cleared => ?_, fun _ => ⟨fire, release, clear, rfl⟩, h.throwing, h.returning, h.still⟩
    rw [show ({ s.diverter with flag := false } : Diverter).clear = none from clear] at cleared
    cases cleared
  unfold trailingTaken
  dsimp only
  split <;> rename_i state
  · exact quiet (.inl state)
  · exact quiet (.inr state)
  all_goals
    have moved := set_ (releasePosition trail s.diverter.geometry)
      (plus (releasePosition trail s.diverter.geometry) (returnLead s)) (by simp [state]) (by simp [state])
    split
    · exact driveSound_startReturn (fun _ => rfl) fun _ => .inl rfl
    · exact moved

theorem driveSound_deliverTrail {s : State} (h : DriveSound s.diverter) (trail : Pos) : DriveSound (deliverTrail trail s).diverter := by
  unfold deliverTrail
  split
  · exact driveSound_trailingTaken h trail
  · exact h

theorem driveSound_tickTimers {s : State} (h : DriveSound s.diverter) : DriveSound (tickTimers s).diverter where
  armed := h.armed
  fire := h.fire
  release := h.release
  clear := h.clear
  rest := h.rest
  throwing state := by
    obtain ⟨p, phase, part⟩ := h.throwing state
    exact ⟨{ p with elapsed := p.elapsed + 1 }, by simp [tickTimers, phase], part⟩
  returning state := by
    obtain ⟨p, phase, part⟩ := h.returning state
    exact ⟨{ p with elapsed := p.elapsed + 1 }, by simp [tickTimers, phase], part⟩
  still notThrowing notReturning := by simp [tickTimers, h.still notThrowing notReturning]

/-! ### The Eye Unit -/

theorem eyeAgrees_clearedEye (e : Eye) : EyeAgrees (clearedEye e) := by simp [EyeAgrees, clearedEye]

theorem eyeAgrees_sampledEye (now : Pos) (level : Bool) (e : Eye) : EyeAgrees (sampledEye now level e) := by
  unfold sampledEye
  split
  · simp [EyeAgrees, clearedEye]
  · exact eyeAgrees_clearedEye e

/-- The eye at a leading edge, with the context of its tote (R16). -/
theorem eyeAgrees_led {e : Eye} (h : EyeAgrees e) (clear : e.state = .clear) (m : Option ToteFields) (now : Pos) (o : ToteOutcome) :
    EyeAgrees { leadTaken now e with context := leadContext m now o } := by
  obtain ⟨clearing, debounce, -⟩ := h
  cases m <;> simp_all [EyeAgrees, leadTaken, leadContext]

theorem eyeAgrees_clearingStarts {e : Eye} (h : EyeAgrees e) (blocked : e.state = .blocked) (now : Pos) :
    EyeAgrees (clearingStarts now e) := by
  obtain ⟨-, -, context, deadline, lead⟩ := h
  refine ⟨⟨fun _ => rfl, fun _ => rfl⟩, ⟨fun _ => rfl, fun _ => rfl⟩, ⟨nofun, fun none => ?_⟩, fun _ => nofun, lead⟩
  exact absurd (blocked.symm.trans (context.mpr none)) nofun

theorem eyeAgrees_gapMerged {e : Eye} (h : EyeAgrees e) (clearing : e.state = .clearing) : EyeAgrees (gapMerged e) := by
  obtain ⟨-, -, context, deadline, lead⟩ := h
  refine ⟨⟨nofun, nofun⟩, ⟨nofun, nofun⟩, ⟨nofun, fun none => ?_⟩, fun _ => nofun, lead⟩
  exact absurd (clearing.symm.trans (context.mpr none)) nofun

/-! ### The head deadline -/

/-- A tote at the tail leaves the head of a queue that is not empty. -/
theorem headDeadlineOf_append (q : List TrackRecord) (r : TrackRecord) :
    headDeadlineOf (q ++ [r]) = if q.isEmpty then headDeadlineOf [r] else headDeadlineOf q := by
  cases q <;> rfl

theorem headWatched_takeTote {s : State} (h : HeadWatched s.tracking) (t : ToteFields) : HeadWatched (takeTote t s).tracking := by
  unfold takeTote
  dsimp only
  split
  · simp only [HeadWatched, headDeadlineOf_append] at h ⊢
    split
    · rfl
    · exact h
  · exact h

/-! ### The cursors -/

/-- The walk takes a cell of the window to a cell of the window, and ends at the window's last (R53). -/
theorem nextCell_inWindow {p : RoutePlan} {c d : Cell} (inside : InWindow p c) (next : nextCell p c = some d) : InWindow p d := by
  obtain ⟨d0, d1, c0, c1⟩ := inside
  unfold nextCell nextDest nextClass at next
  split at next
  · split at next
    · rename_i stepped
      split at stepped
      · cases stepped
        cases next
        rename_i room
        exact ⟨Nat.le_succ_of_le d0, room, c0, c1⟩
      · cases stepped
    · split at next
      · cases next
        rename_i room
        exact ⟨le_rfl, d0.trans d1, Nat.le_succ_of_le c0, room⟩
      · cases next
  · split at next
    · rename_i stepped
      split at stepped
      · cases stepped
        cases next
        rename_i room
        exact ⟨d0, d1, Nat.le_succ_of_le c0, room⟩
      · cases stepped
    · split at next
      · cases next
        rename_i room
        exact ⟨Nat.le_succ_of_le d0, room, le_rfl, c0.trans c1⟩
      · cases next

theorem nextCell_eq_none {p : RoutePlan} {c : Cell} (inside : InWindow p c) : nextCell p c = none ↔ c = ⟨p.d1, p.c1⟩ := by
  obtain ⟨-, d1, -, c1⟩ := inside
  have last : nextCell p c = none ↔ ¬ c.dest < p.d1 ∧ ¬ c.cls < p.c1 := by
    unfold nextCell nextDest nextClass
    cases p.order <;> dsimp only
    · by_cases room : c.dest < p.d1 <;> by_cases more : c.cls < p.c1 <;> simp [room, more]
    · by_cases room : c.dest < p.d1 <;> by_cases more : c.cls < p.c1 <;> simp [room, more]
  rw [last]
  constructor
  · rintro ⟨dest, cls⟩
    cases c
    simp only [Cell.mk.injEq]
    exact ⟨le_antisymm d1 (not_lt.mp dest), le_antisymm c1 (not_lt.mp cls)⟩
  · rintro rfl
    exact ⟨lt_irrefl _, lt_irrefl _⟩

/-- A cursor of the window: it stands in it, and done on its last cell. -/
def CursorOrdered (p : RoutePlan) (c : Cursor) : Prop := InWindow p c.cell ∧ (c.done = true → c.cell = ⟨p.d1, p.c1⟩)

theorem planOrdered_iff {p : RoutePlan} : PlanOrdered p ↔ CursorOrdered p p.write ∧ CursorOrdered p p.read :=
  ⟨fun ⟨write, read, writeDone, readDone⟩ => ⟨⟨write, writeDone⟩, ⟨read, readDone⟩⟩,
    fun ⟨⟨write, writeDone⟩, ⟨read, readDone⟩⟩ => ⟨write, read, writeDone, readDone⟩⟩

theorem cursorOrdered_windowStart {p : RoutePlan} (dests : p.d0 ≤ p.d1) (classes : p.c0 ≤ p.c1) : CursorOrdered p (windowStart p) :=
  ⟨⟨le_rfl, dests, le_rfl, classes⟩, nofun⟩

theorem CursorOrdered.window {p : RoutePlan} {c : Cursor} (h : CursorOrdered p c) : CursorOrdered p (windowStart p) :=
  cursorOrdered_windowStart (h.1.1.trans h.1.2.1) (h.1.2.2.1.trans h.1.2.2.2)

theorem CursorOrdered.advance {p : RoutePlan} {c : Cursor} (h : CursorOrdered p c) : CursorOrdered p (advance p c) := by
  unfold Machine.advance
  split
  · exact ⟨nextCell_inWindow h.1 ‹_›, nofun⟩
  · exact ⟨h.1, fun _ => (nextCell_eq_none h.1).mp ‹_›⟩

theorem planOrdered_storeValue {p : RoutePlan} (h : PlanOrdered p) (v : Byte) : PlanOrdered (storeValue p v) := by
  obtain ⟨write, read⟩ := planOrdered_iff.mp h
  have stored : CursorOrdered p (Machine.advance p p.write) := write.advance
  refine planOrdered_iff.mpr ?_
  unfold storeValue putBank
  cases standby p <;> exact ⟨stored, read⟩

theorem planOrdered_storeValues (vs : List Byte) : ∀ {l : Load}, PlanOrdered l.plan → PlanOrdered (storeValues vs l).plan := by
  induction vs with
  | nil => exact id
  | cons v vs ih =>
    intro l h
    unfold storeValues
    split
    · exact h
    · exact ih (planOrdered_storeValue h v)

theorem cursorOrdered_readValues {p : RoutePlan} (cells : BankCells) (n : Nat) :
    ∀ {c : Cursor}, CursorOrdered p c → CursorOrdered p (readValues p cells n c).2 := by
  induction n with
  | zero => exact id
  | succ n ih =>
    intro c h
    unfold readValues
    split
    · exact h
    · exact ih h.advance

theorem planOrdered_readFrom {p : RoutePlan} (h : PlanOrdered p) {start : Cursor} (ordered : CursorOrdered p start)
    (selector count : Nat) : PlanOrdered (readFrom start selector count p).1 := by
  obtain ⟨write, -⟩ := planOrdered_iff.mp h
  unfold readFrom
  split
  · exact h
  · split
    · exact planOrdered_iff.mpr ⟨write, cursorOrdered_readValues _ _ ordered⟩
    · exact h

theorem planOrdered_setWindow {p : RoutePlan} (h : PlanOrdered p) (fs : List Byte) : PlanOrdered (planSetWindow fs p).1 := by
  unfold planSetWindow
  dsimp only
  split
  · exact h
  · split
    · rename_i order _ right
      obtain ⟨dests, classes⟩ := right
      have start : CursorOrdered { p with
          d0 := Fin.ofNat 64 (field1 fs 0), d1 := Fin.ofNat 64 (min (field1 fs 1) 63), c0 := Fin.ofNat 4 (field1 fs 2)
          c1 := Fin.ofNat 4 (min (field1 fs 3) 3), order := order } (windowStart { p with
          d0 := Fin.ofNat 64 (field1 fs 0), d1 := Fin.ofNat 64 (min (field1 fs 1) 63), c0 := Fin.ofNat 4 (field1 fs 2)
          c1 := Fin.ofNat 4 (min (field1 fs 3) 3), order := order }) := by
        refine cursorOrdered_windowStart ?_ ?_ <;> simp only [Fin.le_def, Fin.ofNat] <;> omega
      exact planOrdered_iff.mpr ⟨start, start⟩
    · exact h

theorem planOrdered_swap {p : RoutePlan} (h : PlanOrdered p) : PlanOrdered (planSwap p).1 := by
  obtain ⟨write, read⟩ := planOrdered_iff.mp h
  exact planOrdered_iff.mpr ⟨write.window, read⟩

theorem planOrdered_copy {p : RoutePlan} (h : PlanOrdered p) : PlanOrdered (planCopy p).1 := by
  obtain ⟨write, read⟩ := planOrdered_iff.mp h
  refine planOrdered_iff.mpr ?_
  unfold planCopy putBank
  cases standby p <;> exact ⟨write.window, read⟩

end Sys2Proof.Machine
end

section
/-! SUPPORT. Every event leaves the blocks of the belt's side in agreement with their own states: the lane's side leaves them alone, and each
other event is one of their own operations. -/

namespace Sys2Proof.Machine

/-- The blocks beside the Eye Unit agree with themselves. -/
structure OthersAgree (s : State) : Prop where
  head : HeadWatched s.tracking
  drive : DriveSound s.diverter
  plan : PlanOrdered s.plan

/-- The four blocks agree with themselves. -/
structure BlocksAgree (s : State) : Prop extends OthersAgree s where
  eye : EyeAgrees s.eye

theorem OthersAgree.of_same {s t : State} (h : OthersAgree s) (tracking : t.tracking = s.tracking)
    (diverter : t.diverter = s.diverter) (plan : t.plan = s.plan) : OthersAgree t :=
  ⟨tracking ▸ h.head, diverter ▸ h.drive, plan ▸ h.plan⟩

theorem OthersAgree.of_side {s t : State} (h : OthersAgree s) (side : LaneSide s t) : OthersAgree t :=
  h.of_same side.tracking side.diverter side.plan

theorem BlocksAgree.of_same {s t : State} (h : BlocksAgree s) (eye : t.eye = s.eye) (tracking : t.tracking = s.tracking)
    (diverter : t.diverter = s.diverter) (plan : t.plan = s.plan) : BlocksAgree t :=
  ⟨h.toOthersAgree.of_same tracking diverter plan, eye ▸ h.eye⟩

theorem BlocksAgree.of_side {s t : State} (h : BlocksAgree s) (side : LaneSide s t) : BlocksAgree t :=
  h.of_same side.eye side.tracking side.diverter side.plan

theorem BlocksAgree.withDrive {s : State} (h : BlocksAgree s) {d : Diverter} (sound : DriveSound d) :
    BlocksAgree { s with diverter := d } := ⟨⟨h.head, sound, h.plan⟩, h.eye⟩

theorem BlocksAgree.withEye {s : State} (h : BlocksAgree s) {e : Eye} (agrees : EyeAgrees e) : BlocksAgree { s with eye := e } :=
  ⟨⟨h.head, h.drive, h.plan⟩, agrees⟩

theorem BlocksAgree.withPlan {s : State} (h : BlocksAgree s) {p : RoutePlan} (ordered : PlanOrdered p) :
    BlocksAgree { s with plan := p } := ⟨⟨h.head, h.drive, ordered⟩, h.eye⟩

theorem BlocksAgree.withLane {s : State} (h : BlocksAgree s) (l : Lane) : BlocksAgree { s with lane := l } :=
  h.of_same rfl rfl rfl rfl

theorem BlocksAgree.withAdmission {s : State} (h : BlocksAgree s) (a : Admission) : BlocksAgree { s with admission := a } :=
  h.of_same rfl rfl rfl rfl

/-! ### Deadlines -/

theorem BlocksAgree.deliverTrail {s : State} (h : BlocksAgree s) (trail : Pos) : BlocksAgree (deliverTrail trail s) := by
  rw [deliverTrail_eq]
  exact h.withDrive (driveSound_deliverTrail h.drive trail)

theorem BlocksAgree.confirmTrail {s : State} (h : BlocksAgree s) : BlocksAgree (confirmTrail s) :=
  ((h.of_side (lengthCheck_laneSide _ s)).deliverTrail _).withEye (eyeAgrees_clearedEye _)

theorem BlocksAgree.takeTrailing {s : State} (h : BlocksAgree s) : BlocksAgree (takeTrailing s) := by
  rcases takeTrailing_cases s with ⟨same, -⟩ | ⟨same, -⟩ <;> rw [same]
  · exact h
  · exact h.confirmTrail

theorem BlocksAgree.takeBlocked {s : State} (h : BlocksAgree s) : BlocksAgree (takeBlocked s) := by
  rcases takeBlocked_cases s with same | ⟨same, -⟩ | ⟨d, -, same⟩ <;> rw [same]
  · exact h
  · exact h.confirmTrail
  · obtain ⟨clearing, debounce, context, -, lead⟩ := h.eye
    exact (h.withEye (e := { s.eye with blockedDeadline := none }) ⟨clearing, debounce, context, nofun, lead⟩).of_side
      (raise_laneSide _ _ _)

theorem OthersAgree.settleHead {s : State} (h : OthersAgree s) (missed rest : List TrackRecord) :
    OthersAgree (settleHead missed rest s) :=
  OthersAgree.of_side (s := { s with tracking := { s.tracking with
    queue := rest.dropWhile (outlived s.belt.pos), headDeadline := headDeadlineOf (rest.dropWhile (outlived s.belt.pos)) } })
    ⟨rfl, h.drive, h.plan⟩ (raiseAll_laneSide _ _ _)

theorem BlocksAgree.takeHead {s : State} (h : BlocksAgree s) : BlocksAgree (takeHead s) := by
  rcases takeHead_cases s with same | ⟨r, rest, -, same⟩ <;> rw [same]
  · exact h
  · exact ⟨h.toOthersAgree.settleHead _ _, by rw [settleHead_eye]; exact h.eye⟩

theorem BlocksAgree.takeReservations {s : State} (h : BlocksAgree s) : BlocksAgree (takeReservations s) := by
  unfold Machine.takeReservations
  split
  · exact (h.withAdmission _).of_side (raiseAll_laneSide _ _ _)
  · exact h

theorem BlocksAgree.takeFire {s : State} (h : BlocksAgree s) : BlocksAgree (takeFire s) := by
  unfold Machine.takeFire
  split
  · exact h.withDrive (driveSound_startThrow h.drive.release h.drive.clear)
  · exact h

theorem BlocksAgree.takeRelease {s : State} (h : BlocksAgree s) : BlocksAgree (takeRelease s) := by
  unfold Machine.takeRelease
  split
  · exact h.withDrive (driveSound_startReturn h.drive.release h.drive.clear)
  · exact h

theorem BlocksAgree.takeEntries {s : State} (h : BlocksAgree s) : BlocksAgree (takeEntries s) := by
  unfold Machine.takeEntries
  split
  · exact ((h.withLane _).of_side (raiseAll_laneSide _ _ _)).of_side (settleLane_laneSide _)
  · exact h

/-! ### Leading edges -/

theorem OthersAgree.matchLead {s : State} (p : Pos) (h : OthersAgree s) :
    OthersAgree (matchLead p s).2 ∧ (matchLead p s).2.eye = s.eye := by
  rcases matchLead_cases p s with ⟨n, same⟩ | ⟨r, rest, -, same⟩ <;> rw [same]
  · exact ⟨h.of_side (raise_laneSide _ _ _), rfl⟩
  · exact ⟨h.settleHead _ _, settleHead_eye [] rest s⟩

theorem passTote_laneSide (k : PassKind) (t : ToteFields) (lead : Pos) (s : State) : LaneSide s (passTote k t lead s).1 := by
  have passed : LaneSide s (raisePassed k t lead s) := by
    unfold raisePassed
    split
    · exact .refl s
    · exact .refl s
    · exact raise_laneSide _ _ s
    · exact raise_laneSide _ _ s
  have appended : LaneSide s (appendInbound t true lead s) := by constructor <;> first | rfl | exact .refl _
  unfold passTote crowdedTote
  dsimp only
  split
  · split
    · exact ((appended.trans (trim_laneSide _)).trans (raise_laneSide _ _ _)).trans (settleLane_laneSide _)
    · exact raise_laneSide _ _ s
  · exact passed.trans (offerHandOff_laneSide _ _ _ _ _)

/-- A decision changes the lane's side alone, or commits the drive to its verdict. -/
theorem decideTote_drive (m : Option ToteFields) (lead : Pos) (s : State) :
    LaneSide s (decideTote m lead s).1 ∨
      s.diverter.state ≠ .fault ∧
        LaneSide { s with diverter := commitVerdict (verdict lead s) s.belt.pos s.diverter } (decideTote m lead s).1 := by
  have passed := fun k => passTote_laneSide k (m.getD anonymousFields) lead s
  have committed : ∀ how, decision m s = .admitted how →
      s.diverter.state ≠ .fault ∧ LaneSide { s with diverter := commitVerdict (verdict lead s) s.belt.pos s.diverter }
        (commitDivert (verdict lead s) how (m.getD anonymousFields) lead s) := by
    intro how admitted
    obtain ⟨-, -, faultless, -⟩ := decision_admitted admitted
    refine ⟨faultless, LaneSide.trans ?_ ((commitReservation_laneSide _ _ _ _).trans (settleLane_laneSide _))⟩
    constructor <;> first | rfl | exact .refl _
  unfold decideTote
  dsimp only
  split
  · exact .inl (passed _)
  · exact .inl (passed _)
  · exact .inl (passed _)
  · rename_i how admitted
    have divert := committed how admitted
    unfold admitTote
    split <;> rename_i timing
    · exact .inl (passed _)
    · exact .inl (passed _)
    all_goals
      rw [timing] at divert ⊢
      exact .inr divert

theorem OthersAgree.decideTote {s : State} (h : OthersAgree s) (m : Option ToteFields) (lead : Pos) :
    OthersAgree (decideTote m lead s).1 ∧ (decideTote m lead s).1.eye = s.eye := by
  rcases decideTote_drive m lead s with side | ⟨faultless, side⟩
  · exact ⟨h.of_side side, side.eye⟩
  · have committed : OthersAgree { s with diverter := commitVerdict (verdict lead s) s.belt.pos s.diverter } :=
      ⟨h.head, driveSound_commitVerdict h.drive faultless lead s.belt.pos, h.plan⟩
    exact ⟨committed.of_side side, side.eye⟩

theorem BlocksAgree.leadingEdge {s : State} (h : BlocksAgree s) (clear : s.eye.state = .clear) : BlocksAgree (leadingEdge s) := by
  have taken : OthersAgree { s with eye := leadTaken s.belt.pos s.eye } := h.toOthersAgree.of_same rfl rfl rfl
  obtain ⟨matched, eye⟩ := taken.matchLead s.belt.pos
  obtain ⟨decided, eye'⟩ := matched.decideTote (Machine.matchLead s.belt.pos { s with eye := leadTaken s.belt.pos s.eye }).1 s.belt.pos
  refine ⟨decided.of_same rfl rfl rfl, ?_⟩
  have led := eyeAgrees_led h.eye clear (Machine.matchLead s.belt.pos { s with eye := leadTaken s.belt.pos s.eye }).1 s.belt.pos
    (Machine.decideTote (Machine.matchLead s.belt.pos { s with eye := leadTaken s.belt.pos s.eye }).1 s.belt.pos
      (Machine.matchLead s.belt.pos { s with eye := leadTaken s.belt.pos s.eye }).2).2
  unfold Machine.leadingEdge
  dsimp only
  rwa [eye', eye]

theorem BlocksAgree.eyeTakes {s : State} (h : BlocksAgree s) (level : Bool) : BlocksAgree (eyeTakes level s) := by
  have pin : BlocksAgree { s with pins := { s.pins with eye := level } } := h.of_same rfl rfl rfl rfl
  unfold Machine.eyeTakes eyeChanged
  dsimp only
  split
  · exact pin
  · split
    · exact pin.leadingEdge ‹_›
    · exact pin.withEye (eyeAgrees_clearingStarts h.eye ‹_› s.belt.pos)
    · exact pin.withEye (eyeAgrees_gapMerged h.eye ‹_›)
    all_goals exact pin

/-! ### The ends of the phases -/

theorem BlocksAgree.enterFault {s : State} (h : BlocksAgree s) (detail ran : Nat) : BlocksAgree (enterFault detail ran s) :=
  ⟨⟨h.head, driveSound_enterFault detail ran s, h.plan⟩, h.eye⟩

theorem BlocksAgree.throwOver {s : State} (h : BlocksAgree s) (home : Bool) : BlocksAgree (throwOver home s) := by
  have pin : BlocksAgree (homeReads home s) := h.of_same rfl rfl rfl rfl
  unfold Machine.throwOver throwEnds
  dsimp only
  split
  · exact pin
  · rename_i runs
    split
    · exact pin.enterFault _ _
    · exact pin.withDrive (driveSound_enterHolding _ h.drive (h.drive.state_of_throwing (by simp_all)))

theorem BlocksAgree.returnOver {s : State} (h : BlocksAgree s) (home : Bool) : BlocksAgree (returnOver home s) := by
  have pin : BlocksAgree (homeReads home s) := h.of_same rfl rfl rfl rfl
  unfold Machine.returnOver returnEnds
  dsimp only
  split
  · exact pin
  · rename_i runs
    have returning := h.drive.state_of_returning (.inl (by simp_all))
    split
    · exact pin.withDrive (driveSound_returnComplete _ h.drive)
    · split
      · exact pin.enterFault _ _
      · refine pin.withDrive ⟨h.drive.armed, h.drive.fire, h.drive.release, h.drive.clear, h.drive.rest,
          fun throwing => absurd (returning.symm.trans throwing) nofun, fun _ => ⟨_, rfl, .inr rfl⟩, fun _ other => absurd returning other⟩

theorem BlocksAgree.homeBecomesActive {s : State} (h : BlocksAgree s) : BlocksAgree (homeBecomesActive s) := by
  have pin : BlocksAgree (homeReads true s) := h.of_same rfl rfl rfl rfl
  unfold Machine.homeBecomesActive
  dsimp only
  split
  · exact pin
  · exact pin.withDrive (driveSound_returnComplete _ h.drive)

theorem BlocksAgree.homeWaitOver {s : State} (h : BlocksAgree s) : BlocksAgree (homeWaitOver s) := by
  unfold Machine.homeWaitOver
  split
  · exact h
  · exact h.enterFault _ _

/-! ### Settings and resets -/

theorem BlocksAgree.takeLine {s : State} (h : BlocksAgree s) (fs : List Byte) : BlocksAgree (takeLine fs s).1 := by
  have settings : ∀ edge gate polarity, BlocksAgree (lineSettings fs edge gate polarity s) := fun _ _ _ =>
    ⟨⟨h.head, h.drive, h.plan⟩, h.eye⟩
  have changed : ∀ {t}, BlocksAgree t → BlocksAgree (polarityChanged t) := by
    intro t agrees
    unfold polarityChanged
    dsimp only
    split
    · exact (agrees.deliverTrail _).withEye (eyeAgrees_sampledEye _ _ _)
    · exact agrees.withEye (eyeAgrees_sampledEye _ _ _)
  rcases takeLine_cases fs s with same | ⟨edge, gate, polarity, same | same⟩ <;> rw [same]
  · exact h
  · exact settings edge gate polarity
  · exact changed (settings edge gate polarity)

theorem BlocksAgree.takeLane {s : State} (h : BlocksAgree s) (fs : List Byte) : BlocksAgree (takeLane fs s).1 := by
  rcases takeLane_cases fs s with same | ⟨mode, polarity, -, -, taken⟩
  · rwa [same]
  · have settings : BlocksAgree { s with lane := newLane fs mode polarity s.lane } := h.withLane _
    rcases taken with ⟨-, same⟩ | ⟨-, same⟩ <;> rw [same]
    · exact settings.of_side (((trim_laneSide _).trans (evalReady_laneSide _)).trans (settleLane_laneSide _))
    · unfold lanePolarityChanged
      refine BlocksAgree.of_side ?_ (rescanInPlace_laneSide _)
      exact settings.of_same rfl rfl rfl rfl

/-- The blocks of a node reset are read afresh or kept (R27, R49, R69, R113). -/
theorem BlocksAgree.resetBlocks {s : State} (h : BlocksAgree s) : BlocksAgree (resetBlocks s) := by
  unfold Machine.resetBlocks
  refine BlocksAgree.of_side ?_ (rescanInPlace_laneSide _)
  exact ⟨⟨rfl, driveSound_homeCheck s.diverter, h.plan⟩, eyeAgrees_sampledEye _ _ _⟩

theorem blocksAgree_powerUp (enc : Bool) (levels : InputLevels) (s : State) : BlocksAgree (powerUp enc levels s) := by
  have drive : DriveAgrees State.reset.diverter := by decide +kernel
  have plan : PlanOrdered State.reset.plan := by decide +kernel
  have reset : OthersAgree State.reset := ⟨rfl, driveSound_iff.mpr drive, plan⟩
  have powered : OthersAgree (poweredOn enc levels s.pending) := reset.of_same rfl rfl rfl
  unfold powerUp
  exact BlocksAgree.of_side ⟨powered, eyeAgrees_sampledEye 0 levels.eye State.reset.eye⟩ (rescanInPlace_laneSide _)

theorem BlocksAgree.followLos {s : State} (h : BlocksAgree s) : BlocksAgree (followLos s) := by
  unfold Machine.followLos
  dsimp only
  split
  · exact h
  · exact (h.of_same (t := { s with line := { s.line with link := linkOfLos s.pins.los } }) rfl rfl rfl rfl).of_side
      (raise_laneSide _ _ _)

/-! ### Every event -/

theorem BlocksAgree.ask {s : State} (h : BlocksAgree s) (c : AskCode) (fs : List Byte) (notReset : c ≠ .nodeReset) :
    BlocksAgree (askEffect c fs s).1 := by
  obtain ⟨write, read⟩ := planOrdered_iff.mp h.plan
  have start : PlanOrdered { s.plan with write := windowStart s.plan } := planOrdered_iff.mpr ⟨write.window, read⟩
  cases c <;> simp only [askEffect]
  case readStatus | readIdentity | readTracking | readLane | readReservations => exact h
  case setWindow => exact h.withPlan (planOrdered_setWindow h.plan fs)
  case writeEntries => exact h.withPlan (planOrdered_storeValues fs start)
  case continueEntries => exact h.withPlan (planOrdered_storeValues fs h.plan)
  case readEntries => exact h.withPlan (planOrdered_readFrom h.plan write.window _ _)
  case continueRead => exact h.withPlan (planOrdered_readFrom h.plan read _ _)
  case swapPlan => exact h.withPlan (planOrdered_swap h.plan)
  case copyPlan => exact h.withPlan (planOrdered_copy h.plan)
  case setGeometry =>
    refine h.withDrive ?_
    unfold takeGeometry
    split
    · exact ⟨h.drive.armed, h.drive.fire, h.drive.release, h.drive.clear, h.drive.rest, h.drive.throwing, h.drive.returning, h.drive.still⟩
    · exact h.drive
  case setLine => exact h.takeLine fs
  case setLane => exact h.takeLane fs
  case setReports => exact h.of_same rfl rfl rfl rfl
  case clearFlags =>
    unfold takeClearFlags
    dsimp only
    split
    · exact h.of_same rfl rfl rfl rfl
    · exact h
  case clearFault =>
    have diverter : BlocksAgree (clearDiverter s) := by
      unfold clearDiverter
      split
      · exact h.withDrive (driveSound_homeCheck _)
      · exact h
    have lane : ∀ {u}, BlocksAgree u → BlocksAgree (clearLane u) := by
      intro u agrees
      unfold clearLane
      split
      · exact agrees.of_side (rescanToRunning_laneSide u)
      · exact agrees
    unfold takeClearFault
    dsimp only
    split
    · split <;> split
      · exact lane diverter
      · exact lane h
      · exact diverter
      · exact h
    · exact h
  case pauseLane =>
    unfold takePause
    split
    · exact h
    · exact h
    · exact (h.of_same (t := { s with lane := { s.lane with state := .paused }, counter := pauseTaken s.counter }) rfl rfl rfl rfl).of_side
        (evalReady_laneSide _)
  case resumeLane =>
    unfold takeResume
    split
    · exact h
    · exact h
    · exact (h.withLane _).of_side (evalReady_laneSide _)
  case release => exact h.of_side ((releaseRequest_laneSide 1 s).trans (settleLane_laneSide _))
  case nodeReset => exact absurd rfl notReset

/-- Every event leaves the four blocks in agreement. -/
theorem blocksAgree_kept : KeptByEvents BlocksAgree where
  pending h _ := h.of_same rfl rfl rfl rfl
  takeTrailing h := h.takeTrailing
  takeBlocked h := h.takeBlocked
  takeHead h := h.takeHead
  takeReservations h := h.takeReservations
  takeFire h := h.takeFire
  takeRelease h := h.takeRelease
  takeEntries h := h.takeEntries
  powerUp _ enc levels := blocksAgree_powerUp enc levels _
  pinAsserted h := by
    unfold pinAsserted
    split <;> exact h.of_same rfl rfl rfl rfl
  pinReleased {s} h := by
    unfold pinReleased
    dsimp only
    split
    · have released : BlocksAgree { s with
          resetLow := false, report := resetReport .resetPin s.report, line := resetLine s.line } := h.of_same rfl rfl rfl rfl
      refine BlocksAgree.resetBlocks ?_
      exact released.followLos.of_same rfl rfl rfl rfl
    · exact h
  encTakes h _ _ := h.of_same rfl rfl rfl rfl
  gateOver {s} h := by
    have ended : BlocksAgree { s with belt := { s.belt with
        speed := s.belt.acc, acc := 0, timer := 0, state := beltStateOf s.belt.acc } } := h.of_same rfl rfl rfl rfl
    unfold gateOver gateEnds
    dsimp only
    split
    · exact h
    · split
      · exact ended.of_side (raise_laneSide _ _ _)
      · exact ended.of_side (raise_laneSide _ _ _)
      all_goals exact ended
  eyeTakes h level := h.eyeTakes level
  throwOver h home := h.throwOver home
  returnOver h home := h.returnOver home
  homeBecomesActive h := h.homeBecomesActive
  homeWaitOver h := h.homeWaitOver
  zoneEyeTakes h k _ _ level := by
    have pin : BlocksAgree (zeyeTakes k level _) := h.of_same rfl rfl rfl rfl
    unfold zoneEyeTakes
    dsimp only
    split
    · exact pin
    · exact pin.of_side (zoneChanged_laneSide _ _ _)
  transferRunsOut h k := h.of_side (transferRunsOut_laneSide k _)
  dischargeRunsOut h := h.of_side (dischargeRunsOut_laneSide _)
  buttonTakes h level := by
    unfold buttonTakes
    dsimp only
    split
    · exact h.of_same rfl rfl rfl rfl
    · split <;> exact h.of_same rfl rfl rfl rfl
  pressTaken h := h.of_side (pressTaken_laneSide _)
  waitLampOut h := by
    unfold waitLampOut
    split
    · exact h
    · exact h.of_same rfl rfl rfl rfl
  losTakes {s} h level partly := by
    unfold losTakes
    dsimp only
    split
    · exact h.of_same rfl rfl rfl rfl
    · exact BlocksAgree.followLos (h.of_same rfl rfl rfl rfl)
  idleSeen h := by
    unfold idleSeen
    split
    · exact h.of_same rfl rfl rfl rfl
    · exact h
  transmitterIdle h := by
    unfold transmitterIdle
    split
    · exact h
    · exact h.of_same rfl rfl rfl rfl
  tickTimers h := ⟨⟨h.head, driveSound_tickTimers h.drive, h.plan⟩, h.eye⟩
  badFrame h := h.of_same rfl rfl rfl rfl
  takeTote {s} h source payload := by
    have head := headWatched_takeTote h.head (normalise source payload)
    unfold takeTote at head ⊢
    by_cases room : s.tracking.queue.length < Config.trackingDepth
    · rw [if_pos room] at head ⊢
      exact ⟨⟨head, h.drive, h.plan⟩, h.eye⟩
    · rw [if_neg room]
      exact h.of_side (raise_laneSide _ _ s)
  position h _ := h.of_same rfl rfl rfl rfl
  forwardFrame h f := h.of_side (forwardFrame_laneSide f _)
  queueAnswer h f := h.of_side (queueAnswer_laneSide f _)
  nodeReset {s} h answer := by
    have emptied : BlocksAgree { s with
        report := resetReport .nodeReset s.report, line := { s.line with localQueue := [], credit := 0 } } := h.of_same rfl rfl rfl rfl
    cases answer with
    | none => exact emptied.resetBlocks
    | some f => exact (emptied.of_side (queueAnswer_laneSide f _)).resetBlocks
  ask h c fs _ notReset := h.ask c fs notReset

/-- Settles O58: each block's own operations keep it in agreement, and the lane's side leaves it alone. -/
theorem blocksAgreeWithThemselves : Obligations.BlocksAgreeWithThemselves := by
  intro s t eye head drive plan e
  have kept := blocksAgree_kept.step ⟨⟨head, driveSound_iff.mpr drive, plan⟩, eye⟩ e
  exact ⟨kept.eye, kept.head, driveSound_iff.mp kept.drive, kept.plan⟩

end Sys2Proof.Machine
end

section
/-! SUPPORT. What one command of a zone eye or a lane timer does to a calm node, and the lane's own rules written out (R115 to R127). -/

namespace Sys2Proof.Machine

/-! ### A zone eye's command at a calm node -/

/-- The node with a level on the pin of zone eye i + 1. -/
abbrev withZoneEye (i : Fin 8) (level : Bool) (s : State) : State :=
  { s with pins := { s.pins with zeye := s.pins.zeye.set i level } }

theorem zeyeTakes_eq (i : Fin 8) (level : Bool) (s : State) : zeyeTakes (i.val + 1) level s = withZoneEye i level s := by
  have zeye : s.pins.zeye.setIfInBounds i.val level = s.pins.zeye.set i level := by
    refine Vector.ext fun j inside => ?_
    rw [Vector.getElem_setIfInBounds, Vector.getElem_set]
  simp only [zeyeTakes, Nat.add_sub_cancel, zeye]

theorem zeye_getD (i : Fin 8) (s : State) : s.pins.zeye.getD (i.val + 1 - 1) true = s.pins.zeye.get i := by
  have inside : i.val < 8 := i.isLt
  simp [Vector.getD, Vector.get]

/-- A zone eye's command at a calm node. -/
theorem exec_zoneEyeChange {s : State} (calm : Calm s) (i : Fin 8) (level : Bool) :
    exec (.zoneEyeChange i level) s = .next (zoneEyeTakes (i.val + 1) level s) := by
  show Host.Outcome.next (zoneEyeTakes (i.val + 1) level (settle s)) = _
  rw [settle_of_calm calm]

/-- A zone that awaits a tote does not act on the level it already reads (R125). -/
theorem exec_zoneEyeChange_unchanged {s : State} (calm : Calm s) {i : Fin 8} {level : Bool} (same : s.pins.zeye.get i = level)
    (awaits : awaitsTote (zone s.lane (i.val + 1)) = true) : exec (.zoneEyeChange i level) s = .next (withZoneEye i level s) := by
  rw [exec_zoneEyeChange calm, zoneEyeTakes, zeye_getD, zeyeTakes_eq, same, awaits]
  simp

/-- A zone that expects a tote on its eye, or whose eye changes, acts on the level (R115). -/
theorem exec_zoneEyeChange_acts {s : State} (calm : Calm s) {i : Fin 8} {level : Bool}
    (acts : s.pins.zeye.get i ≠ level ∨ awaitsTote (zone s.lane (i.val + 1)) = false) :
    exec (.zoneEyeChange i level) s =
      .next (zoneChanged (i.val + 1) (readsBlocked s.lane.polarity level) (withZoneEye i level s)) := by
  have notStill : (s.pins.zeye.get i == level && awaitsTote (zone s.lane (i.val + 1))) = false := by
    rcases acts with other | expects
    · simp [other]
    · simp [expects]
  rw [exec_zoneEyeChange calm, zoneEyeTakes, zeye_getD, zeyeTakes_eq, calm.1, notStill]
  simp

/-- In JAMMED a zone eye's command changes its pin alone (R127). -/
theorem exec_zoneEyeChange_jammed {s : State} (calm : Calm s) (jammed : s.lane.state = .jammed) (i : Fin 8) (level : Bool) :
    exec (.zoneEyeChange i level) s = .next (withZoneEye i level s) := by
  have idle : ∀ blocked, zoneChanged (i.val + 1) blocked (withZoneEye i level s) = withZoneEye i level s := fun blocked =>
    if_pos (.inr jammed)
  by_cases acts : s.pins.zeye.get i ≠ level ∨ awaitsTote (zone s.lane (i.val + 1)) = false
  · rw [exec_zoneEyeChange_acts calm acts, idle]
  · obtain ⟨same, awaits⟩ := not_or.mp acts
    exact exec_zoneEyeChange_unchanged calm (not_not.mp same) (by simpa using awaits)

/-- What zone k of a lane that is not JAMMED makes of its eye, with the lane's own rules after it (R115). -/
theorem zoneChanged_of_free {s : State} (free : s.lane.state ≠ .jammed) {k : Nat} (inside : k ≤ s.lane.zoneCount) (blocked : Bool) :
    zoneChanged k blocked s = settleLane (
      if blocked then (if k = 1 then zone1Blocked s else zoneKBlocked k s) else zoneCleared k s) :=
  if_neg (not_or.mpr ⟨Nat.not_lt.mpr inside, free⟩)

/-- A lane at rest stays as it is. -/
theorem settleLane_of_rests {s : State} (rests : LaneRests s) : settleLane s = s :=
  settleLane_of_settled ((laneRule_eq_none_iff s).mpr rests)

theorem awaitsTote_of_empty {z : Zone} (h : z.state = .empty) : awaitsTote z = true := by simp [awaitsTote, h]
theorem awaitsTote_of_filling {z : Zone} (h : z.state = .filling) : awaitsTote z = true := by simp [awaitsTote, h]
theorem awaitsTote_of_held {z : Zone} (h : z.state = .held) : awaitsTote z = false := by simp [awaitsTote, h]
theorem awaitsTote_of_passing {z : Zone} (h : z.state = .passing) : awaitsTote z = false := by simp [awaitsTote, h]

/-! ### The rules of the lane, one case each -/

theorem dueZone_eq_some {l : Lane} {n k : Nat} (low : 1 ≤ k) (high : k ≤ n) (due : transferDue l k = true)
    (highest : ∀ j, k < j → j ≤ n → transferDue l j = false) : dueZone l n = some k := by
  induction n with
  | zero => omega
  | succ n ih =>
    unfold dueZone
    rcases Nat.le_succ_iff.mp high with below | rfl
    · rw [if_neg (by simp [highest (n + 1) (by omega) le_rfl])]
      exact ih below fun j above inside => highest j above (by omega)
    · rw [if_pos due]

/-- Zone 1 takes up with the inbound list (R117). -/
theorem laneRule_of_waiting {s : State} (empty : (zone s.lane 1).state = .empty) (waits : s.lane.inbound ≠ []) :
    laneRule s = some (zone1Fills s) := by
  obtain ⟨r, rest, list⟩ := List.exists_cons_of_ne_nil waits
  simp only [laneRule, empty, list]

/-- Zone 1 gives up an empty list (R117). -/
theorem laneRule_of_emptied {s : State} (filling : (zone s.lane 1).state = .filling) (none : s.lane.inbound = []) :
    laneRule s = some (evalReady { s with lane := putZone 1 { zone s.lane 1 with state := .empty } s.lane }) := by
  simp only [laneRule, filling, none]

/-- With zone 1 in step with the inbound list, the highest due transfer starts (R122). -/
theorem laneRule_of_due {s : State} {k : Nat} (due : dueZone s.lane s.lane.zoneCount = some k)
    (empty : (zone s.lane 1).state = .empty → s.lane.inbound = [])
    (filling : (zone s.lane 1).state = .filling → s.lane.inbound ≠ []) : laneRule s = some (startTransfer k s) := by
  unfold laneRule
  cases state : (zone s.lane 1).state <;> cases waits : s.lane.inbound <;> simp_all

/-- An arrival away from a WAITING release moves the record, and nothing more (R123). -/
theorem arrive_of_record {s : State} {k : Nat} {r : LaneRecord} (stands : (zone s.lane k).record = some r)
    (release : k + 1 = s.lane.zoneCount → s.counter.release ≠ .waiting) :
    arrive (k + 1) s = evalReady { s with
      lane := (putZone (k + 1) ⟨.held, some r, false, none⟩
        (putZone k (transferPart { zone s.lane k with record := none }) s.lane)) } := by
  unfold arrive
  rw [Nat.add_sub_cancel, stands]
  dsimp only
  split
  · rename_i last
    unfold zoneZHeld
    rw [if_neg]
    rw [(evalReady_keeps _).2.2]
    exact release last
  · rfl

/-- The zone behind a tote that has moved on. -/
theorem transferPart_moved (z : Zone) :
    transferPart { z with record := none } = if z.partEnded then emptyZone else { z with record := none } := by
  simp [transferPart]

/-- The zone behind a tote whose first part is taken. -/
theorem transferPart_ended (z : Zone) :
    transferPart { z with partEnded := true } = if z.record.isSome then { z with partEnded := true } else emptyZone := by
  obtain ⟨state, record, ended, timer⟩ := z
  cases record <;> rfl

/-- The lane's own rules leave a node at rest alone, whatever its pin. -/
theorem settleLane_withZoneEye {s : State} (rests : LaneRests s) (i : Fin 8) (level : Bool) :
    settleLane (withZoneEye i level s) = withZoneEye i level s := settleLane_of_rests rests

/-- A clear at a PASSING zone below Z takes the first part of its transfer (R123). -/
theorem zoneCleared_of_passing {s : State} {k : Nat} (inside : k < s.lane.zoneCount) (passing : (zone s.lane k).state = .passing) :
    zoneCleared k s = evalReady { s with
      lane := putZone k (if (zone s.lane k).record.isSome then { zone s.lane k with partEnded := true } else emptyZone) s.lane } := by
  unfold zoneCleared
  split <;> rename_i state
  · exact absurd (passing.symm.trans state) nofun
  · exact absurd (passing.symm.trans state) nofun
  · exact absurd (passing.symm.trans state) nofun
  · rw [if_pos inside, transferPart_ended]

/-- A clear at a zone that passes nothing is expected by nothing (R125). -/
theorem zoneCleared_of_still {s : State} {k : Nat} (still : (zone s.lane k).state ≠ .passing) : zoneCleared k s = s := by
  unfold zoneCleared
  split <;> first | rfl | contradiction

theorem zoneKBlocked_of_filling {s : State} {k : Nat} (filling : (zone s.lane k).state = .filling) : zoneKBlocked k s = arrive k s := by
  simp only [zoneKBlocked, filling]

theorem zoneKBlocked_of_held {s : State} {k : Nat} (held : (zone s.lane k).state = .held) : zoneKBlocked k s = s := by
  simp only [zoneKBlocked, held]

theorem zoneKBlocked_of_passing {s : State} {k : Nat} (inside : k < s.lane.zoneCount) (passing : (zone s.lane k).state = .passing) :
    zoneKBlocked k s = { s with lane := putZone k { zone s.lane k with partEnded := false } s.lane } := by
  simp only [zoneKBlocked, passing, if_pos inside]

theorem zoneKBlocked_of_empty {s : State} {k : Nat} (empty : (zone s.lane k).state = .empty) : zoneKBlocked k s = jam 3 none k s := by
  simp only [zoneKBlocked, empty]

/-- A mark is nothing that the lane acts on. -/
theorem laneRests_mark {s : State} (rests : LaneRests s) {k : Nat} (low : 1 ≤ k) (mark : Bool) :
    LaneRests { s with lane := putZone k { zone s.lane k with partEnded := mark } s.lane } := by
  refine LaneRests.congr (s := s) rests (fun j lowJ => ?_) rfl rfl id
  rcases Nat.lt_or_ge 8 k with away | near
  · rw [putZone_of_gt _ _ away]
  · rw [zone_putZone _ _ lowJ low near]
    split
    · rename_i same
      rw [same]
    · rfl

/-- Settles O35: the settling by the measure of `laneWork`, the rules case by case, and the eye changes at a calm node. -/
theorem transferHasTwoParts : Obligations.TransferHasTwoParts := by
  refine ⟨fun s => settleLane_of_settled, fun s t zones few rule => settleLane_of_rule zones few rule, laneRule_eq_none_iff,
    fun s r rest empty waits => ?fills, fun s filling none => laneRule_of_emptied filling none,
    fun s k low inside free held empty highest first second => ?transfers, fun s i level calm free inside => ?eyes⟩
  case fills =>
    have rule := laneRule_of_waiting empty (by rw [waits]; exact nofun)
    refine ⟨fun clear => ?_, fun blocked free => ?_⟩
    · rw [rule, zone1Fills]
      dsimp only
      rw [if_neg]
      rcases clear with clear | jammed
      · simp [clear]
      · simp [jammed]
    · rw [rule, zone1Fills]
      dsimp only
      rw [if_pos (by simp [blocked, free]), enterZone1]
      simp only [evalReady_lane, putZone_inbound, waits, (evalReady_laneSide _).belt]
      rfl
  case transfers =>
    have due : dueZone s.lane s.lane.zoneCount = some k := by
      refine dueZone_eq_some low inside.le ((transferDue_iff _ _).mpr ⟨free, inside, held, empty⟩) fun j above within => ?_
      by_contra other
      obtain ⟨-, insideJ, heldJ, emptyJ⟩ := (transferDue_iff _ _).mp (by simpa using other)
      exact highest j above insideJ ⟨heldJ, emptyJ⟩
    have rule := laneRule_of_due due first second
    intro passing started
    refine ⟨fun clear => ?_, fun r blocked stands release => ?_⟩
    · rw [rule, startTransfer]
      dsimp only
      rw [if_neg (by simp [clear])]
    · have place : k ≤ 8 := by
        by_contra away
        rw [zone_of_gt _ (by omega)] at stands
        cases stands
      have passes : zone started.lane k = passing := by
        rw [evalReady_lane, zone_putZone_of_ne _ _ low (by omega) (by omega), zone_putZone_self _ _ low place]
      have begins : startTransfer k s = arrive (k + 1) started := if_pos blocked
      rw [rule, begins, arrive_of_record (r := r), passes, transferPart_moved]
      · rw [passes]
        exact stands
      · rw [evalReady_lane, (evalReady_keeps _).2.2]
        exact release
  case eyes =>
    have acts : ∀ blocked, s.pins.zeye.get i ≠ level ∨ awaitsTote (zone s.lane (i.val + 1)) = false →
        readsBlocked s.lane.polarity level = blocked → exec (.zoneEyeChange i level) s = .next (settleLane (
          if blocked then (if i.val + 1 = 1 then zone1Blocked (withZoneEye i level s) else zoneKBlocked (i.val + 1) (withZoneEye i level s))
          else zoneCleared (i.val + 1) (withZoneEye i level s))) := fun blocked expects reads => by
      rw [exec_zoneEyeChange_acts calm expects, zoneChanged_of_free (s := withZoneEye i level s) free (by exact inside), reads]
    refine ⟨fun clear below passing => ?_, fun r blocked second changes filling stands release => ?_, fun rests =>
      ⟨fun blocked second below passing => ?_, fun expected held => ?_, fun still awaits => ?_⟩⟩
    · rw [acts false (.inr (awaitsTote_of_passing passing)) clear, if_neg Bool.false_ne_true,
        zoneCleared_of_passing (s := withZoneEye i level s) below passing]
    · rw [acts true (.inl changes) blocked, if_pos rfl, if_neg (by omega),
        zoneKBlocked_of_filling (s := withZoneEye i level s) filling,
        arrive_of_record (s := withZoneEye i level s) (k := i.val) stands release, transferPart_moved]
      rfl
    · rw [acts true (.inr (awaitsTote_of_passing passing)) blocked, if_pos rfl, if_neg (by omega),
        zoneKBlocked_of_passing (s := withZoneEye i level s) below passing,
        settleLane_of_rests (laneRests_mark (s := withZoneEye i level s) rests (by omega) false)]
    · cases reads : readsBlocked s.lane.polarity level
      · rw [acts false (.inr (awaitsTote_of_held held)) reads, if_neg Bool.false_ne_true,
          zoneCleared_of_still (s := withZoneEye i level s) (by simp [held]), settleLane_withZoneEye rests]
      · have second : 2 ≤ i.val + 1 := expected.resolve_right (by simp [reads])
        rw [acts true (.inr (awaitsTote_of_held held)) reads, if_pos rfl, if_neg (by omega),
          zoneKBlocked_of_held (s := withZoneEye i level s) held, settleLane_withZoneEye rests]
    · by_cases same : s.pins.zeye.get i = level
      · exact exec_zoneEyeChange_unchanged calm same (awaits.elim awaitsTote_of_empty awaitsTote_of_filling)
      · have clear := still.resolve_right same
        rw [acts false (.inl same) clear, if_neg Bool.false_ne_true, zoneCleared_of_still (s := withZoneEye i level s) ?_,
          settleLane_withZoneEye rests]
        rcases awaits with empty | filling
        · simp [empty]
        · simp [filling]

end Sys2Proof.Machine
end

section
/-! SUPPORT. The step, the millisecond, and the Diverter Drive with the output pins, written out by state (chapter 6, log entries 1, 2). -/

namespace Sys2Proof.Machine

/-! ### The step and the tick -/

/-- Settles O1: the step is defined by the front of the queue. -/
theorem stepTakesFrontCommand : Obligations.StepTakesFrontCommand := fun _ _ _ => rfl

theorem step_of_empty {s : State} (empty : s.pending = []) : step s = .next (tick s) := by
  simp only [step, empty]

theorem tick_of_calm {s : State} (calm : Calm s) : tick s = if someTimerOut s then s else tickTimers s := by
  rw [tick, calm.1, if_neg Bool.false_ne_true, settle_of_calm calm]

/-- Settles O2: a calm node ticks, unless a timer's end is still to be taken. -/
theorem emptyQueueTicks : Obligations.EmptyQueueTicks := by
  refine ⟨fun s empty calm running => ?_, fun s empty calm out => ?_, fun s empty low => ?_⟩
  · rw [step_of_empty empty, tick_of_calm calm, running]
    rfl
  · rw [step_of_empty empty, tick_of_calm calm, out]
    rfl
  · rw [step_of_empty empty, tick, low]
    rfl

/-! ### Leads and verdicts -/

/-- A lead is the least number of counts, at least its floor, in which the belt moves far enough (R93). -/
theorem leadOf_least {gate : Nat} (pos : 0 < gate) (time speed floor : Nat) :
    floor ≤ leadOf time speed gate floor ∧ time * speed ≤ leadOf time speed gate floor * gate ∧
    ∀ n, floor ≤ n → time * speed ≤ n * gate → leadOf time speed gate floor ≤ n := by
  have reaches : time * speed ≤ (time * speed + gate - 1) / gate * gate := by
    have split := Nat.div_add_mod (time * speed + gate - 1) gate
    have rest := Nat.mod_lt (time * speed + gate - 1) pos
    rw [Nat.mul_comm] at split
    omega
  refine ⟨Nat.le_max_right .., reaches.trans (Nat.mul_le_mul_right _ (Nat.le_max_left ..)), fun n above far => ?_⟩
  refine Nat.max_le.mpr ⟨Nat.le_of_lt_succ ((Nat.div_lt_iff_lt_mul pos).mpr ?_), above⟩
  rw [Nat.succ_mul]
  omega

theorem gate_ms_ge (g : GateLength) : 32 ≤ g.ms := by cases g <;> decide

/-- With the settings and S in their ranges a lead is at most 32,633: the time and the speed at their highest, the gate at its
shortest. -/
theorem leadOf_le {time speed floor : Nat} (gate : GateLength) (time_le : time ≤ 255) (speed_le : speed ≤ 4095)
    (floor_le : floor ≤ 255) : leadOf time speed gate.ms floor ≤ 32633 := by
  have far : time * speed ≤ 255 * 4095 := Nat.mul_le_mul time_le speed_le
  have ms := gate_ms_ge gate
  exact (leadOf_least (by omega) time speed floor).2.2 32633 (by omega) (by omega)

/-- Settles O28, from the least property of one lead. -/
theorem leadsAreLeast : Obligations.LeadsAreLeast := by
  intro s
  have pos : 0 < s.belt.gate.ms := (by decide : 0 < 32).trans_le (gate_ms_ge _)
  refine ⟨leadOf_least pos .., leadOf_least pos .., fun geometry belt => ?_⟩
  obtain ⟨-, ⟨-, throw⟩, throwFloor, -, ⟨-, back⟩, backFloor, -, -⟩ := geometry
  exact ⟨leadOf_le _ throw belt.1 throwFloor, leadOf_le _ back belt.1 backFloor⟩

theorem verdict_of_rest {s : State} (rest : s.diverter.state = .rest) (lead : Pos) :
    verdict lead s =
      if s.diverter.geometry.eyeToPaddle < throwLead s then .lateLead (throwLead s) else .arm (firePosition lead s) := by
  simp only [verdict, rest]

theorem verdict_of_busy {s : State}
    (busy : s.diverter.state = .armed ∨ s.diverter.state = .throwing ∨ s.diverter.state = .holding) (lead : Pos) :
    verdict lead s = .join := by
  rcases busy with h | h | h <;> simp only [verdict, h]

theorem verdict_of_returning {s : State} (returning : s.diverter.state = .returning) (lead : Pos) :
    verdict lead s =
      if s.diverter.fire.isSome then .join
      else if s.diverter.geometry.eyeToPaddle < throwLead s then .lateLead (throwLead s)
      else match s.diverter.clear with
        | some c => if isBefore (firePosition lead s) c then .lateReturn (throwLead s) else .rethrow (firePosition lead s)
        | none => .rethrow (firePosition lead s) := by
  simp only [verdict, returning] <;> rfl

/-- The crowding test: out of REST and FAULT a tote is crowded by a pending trail, by a release not yet known, and by a clear
position after its arrival (R107). -/
theorem isCrowded_iff (lead : Pos) (d : Diverter) :
    isCrowded lead d = true ↔ d.state ≠ .rest ∧ d.state ≠ .fault ∧
      (d.flag = true ∨ d.release = none ∨
        ∃ clear, d.clear = some clear ∧ isBefore (plus lead d.geometry.eyeToPaddle) clear = true) := by
  have away : d.state ≠ .rest → d.state ≠ .fault → (isCrowded lead d = true ↔
      (d.flag = true ∨ d.release = none ∨
        ∃ clear, d.clear = some clear ∧ isBefore (plus lead d.geometry.eyeToPaddle) clear = true)) := by
    intro notRest notFault
    have test : isCrowded lead d = (d.flag || match d.release, d.clear with
        | some _, some c => isBefore (plus lead d.geometry.eyeToPaddle) c
        | some _, none => false
        | none, _ => true) := by
      cases state : d.state <;> simp_all [isCrowded] <;> rfl
    rw [test]
    cases d.release <;> cases d.clear <;> simp
  by_cases notRest : d.state = .rest
  · simp [isCrowded, notRest]
  by_cases notFault : d.state = .fault
  · simp [isCrowded, notFault]
  simp [away notRest notFault, notRest, notFault]

/-- Settles O29, one state of the diverter after the other. -/
theorem paddleAnswersByState : Obligations.PaddleAnswersByState := by
  intro lead s d arrival fire late
  refine ⟨fun rest => verdict_of_rest rest lead, fun busy => verdict_of_busy busy lead, fun returning pending => ?_,
    fun returning none late => ?_, fun returning none early clear stored => ?_, fun returning none early clear => ?_,
    isCrowded_iff lead d⟩
  · rw [verdict_of_returning returning, if_pos (Option.isSome_iff_ne_none.mpr pending)]
  · rw [verdict_of_returning returning, if_neg (by simp [show s.diverter.fire = _ from none]), if_pos late]
  · rw [verdict_of_returning returning, if_neg (by simp [show s.diverter.fire = _ from none]), if_neg early,
      show s.diverter.clear = _ from stored]
    rfl
  · rw [verdict_of_returning returning, if_neg (by simp [show s.diverter.fire = _ from none]), if_neg early,
      show s.diverter.clear = _ from clear]
    rfl

/-! ### The throw -/

theorem reaches_self {s : State} (high : s.resetLow = false) {d : Option Pos} (at_ : d = some s.belt.pos) :
    reaches s d = true := by
  simp [reaches, high, at_]

theorem reaches_of_ne {s : State} {d : Option Pos} (away : d ≠ some s.belt.pos) : reaches s d = false := by
  simp [reaches, away]

theorem phaseRuns_of_phase {d : Diverter} {p : Phase} (h : d.phase = some p) (part : PhasePart) :
    phaseRuns part d = (p.part == part) := by
  simp only [phaseRuns, h]

theorem phaseRan_of_phase {d : Diverter} {p : Phase} (h : d.phase = some p) : phaseRan d = p.ran + p.length := by
  simp only [phaseRan, h]

theorem throwOver_of_throwing {s : State} (high : s.resetLow = false) {p : Phase} (phase : s.diverter.phase = some p)
    (throwing : p.part = .throwing) (home : Bool) : throwOver home s = throwEnds home (homeReads home s) := by
  simp [throwOver, high, phaseRuns_of_phase phase, throwing]

theorem returnOver_of_returning {s : State} (high : s.resetLow = false) {p : Phase} (phase : s.diverter.phase = some p)
    (returning : p.part = .returning) (home : Bool) : returnOver home s = returnEnds home (homeReads home s) := by
  simp [returnOver, high, phaseRuns_of_phase phase, returning]

theorem homeBecomesActive_of_waiting {s : State} (high : s.resetLow = false) (waits : phaseRuns .homeWait s.diverter = true) :
    homeBecomesActive s = { homeReads true s with diverter := returnComplete s.belt.pos s.diverter } := by
  simp [homeBecomesActive, high, waits]

theorem homeWaitOver_of_waiting {s : State} (high : s.resetLow = false) (waits : phaseRuns .homeWait s.diverter = true) :
    homeWaitOver s = enterFault 1 (phaseRan s.diverter) s := by
  simp [homeWaitOver, high, waits]

theorem reachedWhenSet_iff (now deadline : Pos) : reachedWhenSet now deadline = true ↔ signedDist now deadline ≤ 0 :=
  decide_eq_true_iff

theorem enterHolding_of_reached {d : Diverter} {now r : Pos} (release : d.release = some r) (reached : signedDist now r ≤ 0) :
    enterHolding now d = startReturn { d with state := .holding, phase := none, duty := d.geometry.holdDuty } := by
  simp only [enterHolding, release, if_pos ((reachedWhenSet_iff _ _).mpr reached)]

theorem enterHolding_of_open {d : Diverter} {now : Pos} (still : ∀ r ∈ d.release, 0 < signedDist now r) :
    enterHolding now d = { d with state := .holding, phase := none, duty := d.geometry.holdDuty } := by
  cases release : d.release with
  | none => simp only [enterHolding, release]
  | some r =>
    have later : ¬ reachedWhenSet now r = true := fun reached =>
      Int.not_le.mpr (still r release) ((reachedWhenSet_iff _ _).mp reached)
    simp only [enterHolding, release, if_neg later]

/-- Settles O30: a throw starts at its fire position, and HOME decides its end. -/
theorem throwRunsItsCourse : Obligations.ThrowRunsItsCourse := by
  refine ⟨fun s high armed fire => ?_, fun s away => ?_, fun s elapsed length calm phase => ⟨?_, fun still => ?_, fun r release reached => ?_⟩⟩
  · have due : fireDue s = true := by simp [fireDue, reaches_self high fire, armed]
    exact congrArg Host.Outcome.next (if_pos due)
  · refine congrArg Host.Outcome.next (takeFire_of_not_due ?_)
    rcases away with other | other
    · simp [fireDue, other]
    · simp [fireDue, reaches_of_ne other]
  all_goals
    show Host.Outcome.next (throwOver _ (settle s)) = _
    rw [settle_of_calm calm, throwOver_of_throwing calm.1 phase rfl]
  · simp only [throwEnds, if_true, enterFault, homeReads_diverter, phaseRan_of_phase phase, Nat.zero_add]
    rfl
  · simp only [throwEnds, homeReads_diverter, homeReads_belt, enterHolding_of_open still]
    rfl
  · simp only [throwEnds, homeReads_diverter, homeReads_belt, enterHolding_of_reached release reached]
    rfl

/-! ### The return -/

/-- What a complete return makes of the diverter: REST, or the re-throw that waits (R106). -/
theorem returnComplete_eq (now : Pos) (d : Diverter) :
    returnComplete now d = match d.fire with
      | none => { d with state := .rest, phase := none, release := none, clear := none, flag := false }
      | some f =>
        if signedDist now f ≤ 0 then
          { d with fire := none, state := .throwing, phase := some ⟨.throwing, 0, d.geometry.throwTime, 0⟩ }
        else { d with state := .armed, phase := none } := by
  cases fire : d.fire with
  | none => simp only [returnComplete, fire, Option.isSome_none, Bool.false_eq_true, if_false]
  | some f =>
    simp only [returnComplete, enterArmed, fire, Option.isSome_some, if_true, reachedWhenSet_iff]
    rfl

/-- Settles O31: a return starts at its release position, and HOME, the grace and a re-throw decide its end. -/
theorem returnRunsItsCourse : Obligations.ReturnRunsItsCourse := by
  refine ⟨fun s high holding release => ?_, fun s away => ?_, fun s elapsed length ran calm => ?_⟩
  · have due : releaseDue s = true := by simp [releaseDue, reaches_self high release, holding]
    exact congrArg Host.Outcome.next (if_pos due)
  · refine congrArg Host.Outcome.next (takeRelease_of_not_due ?_)
    rcases away with other | other
    · simp [releaseDue, other]
    · simp [releaseDue, reaches_of_ne other]
  intro complete home fault
  have whole : returnComplete s.belt.pos s.diverter = complete := returnComplete_eq _ _
  refine ⟨fun phase => ?_, fun phase => ?_⟩
  · have ends : ∀ level, exec (.returnEnd level) s = .next (returnEnds level (homeReads level s)) := fun level => by
      show Host.Outcome.next (returnOver level (settle s)) = _
      rw [settle_of_calm calm, returnOver_of_returning calm.1 phase rfl]
    refine ⟨?_, fun grace => ?_, fun grace => ?_⟩
    · rw [ends, ← whole]
      rfl
    · rw [ends]
      simp only [returnEnds, Bool.false_eq_true, if_false, homeReads_diverter, if_neg grace, phaseRan_of_phase phase]
      rfl
    · rw [ends]
      simp only [returnEnds, Bool.false_eq_true, if_false, homeReads_diverter, if_pos grace, enterFault, phaseRan_of_phase phase]
      rfl
  · have waits : phaseRuns .homeWait s.diverter = true := by simp [phaseRuns_of_phase phase]
    constructor
    · show Host.Outcome.next (homeBecomesActive (settle s)) = _
      rw [settle_of_calm calm, homeBecomesActive_of_waiting calm.1 waits, whole]
      rfl
    · show Host.Outcome.next (homeWaitOver (settle s)) = _
      rw [settle_of_calm calm, homeWaitOver_of_waiting calm.1 waits, enterFault, phaseRan_of_phase phase]
      rfl

/-! ### The output pins -/

/-- Settles O32, from the definitions of the pins by state. -/
theorem outputsFollowTheState : Obligations.OutputsFollowTheState := by
  refine fun s => ⟨fun low => ?_, fun high => ⟨fun h => ?_, fun h duty => ?_, fun h duty => ?_, fun h => ?_, fun h => ?_, fun k => ?_, ?_⟩⟩
  · simp [drvEn, drvDir, zmot, readyLamp, waitLamp, txd, low]
  · simp [drvEn, drvDir, high, h]
  · simp [drvEn, drvDir, high, h, Nat.ne_of_lt duty]
  · simp [drvEn, drvDir, high, h, duty]
  · simp [drvEn, drvDir, high, h]
  · rcases h with h | h | h <;> simp [drvEn, drvDir, high, h]
  · cases state : (zone s.lane k).state <;> simp [zmot, high, state, and_assoc]
  · simp [readyLamp, waitLamp, txd, high, lineLevels]
end Sys2Proof.Machine
end

section
/-! SUPPORT. The course of the node: what moves P, S, the belt state and the waiting commands, what writes the Route Plan, and what is left
while RESET_N is low (chapter 1, sections 4.1 and 9.6). -/

namespace Sys2Proof.Machine

/-! ### Encoder edges and gates -/

theorem encTakes_eq (gateRuns level : Bool) (b : Belt) :
    encTakes gateRuns level b =
      if level = b.encRef then b
      else if counted b.edgeSelect level then
        { b with encRef := level, pos := b.pos + 1, acc := if gateRuns then bump 4095 b.acc else b.acc }
      else { b with encRef := level } := rfl

/-- Settles O3: the edge by whether it is counted, the gate by the change of the belt state. -/
theorem edgesAndGatesAreCounted : Obligations.EdgesAndGatesAreCounted := by
  refine ⟨fun level s quiet => ?_, fun s calm => ?_⟩
  · show Host.Outcome.next { settle s with belt := encTakes (!(settle s).resetLow) level (settle s).belt } = _
    rw [settle_of_not_due quiet, encTakes_eq]
    refine congrArg Host.Outcome.next ?_
    by_cases same : level = s.belt.encRef
    · rw [if_pos same, if_pos same]
    · rw [if_neg same, if_neg same]
      by_cases counts : counted s.belt.edgeSelect level = true
      · rw [if_pos counts]
        refine Eq.trans ?_ (if_pos counts).symm
        have fed : (if (!s.resetLow) = true then bump 4095 s.belt.acc else s.belt.acc) =
            if s.resetLow then s.belt.acc else min 4095 (s.belt.acc + 1) := by
          cases s.resetLow <;> rfl
        rw [fed]
      · rw [if_neg counts]
        exact (if_neg counts).symm
  · intro t
    show Host.Outcome.next (gateOver (settle s)) = _
    rw [settle_of_calm calm, gateOver, calm.1, if_neg Bool.false_ne_true]
    by_cases still : s.belt.acc = 0 <;> cases state : s.belt.state <;>
      simp [gateEnds, beltStateOf, still, state, t, valueOf]

/-! ### What leaves the course of the node alone -/

/-- P, the reference level, S, the belt state and the waiting commands stand. -/
structure SameCourse (s t : State) : Prop where
  pos : t.belt.pos = s.belt.pos
  encRef : t.belt.encRef = s.belt.encRef
  speed : t.belt.speed = s.belt.speed
  state : t.belt.state = s.belt.state
  pending : t.pending = s.pending

/-- The course and the Route Plan stand. -/
structure Steady (s t : State) : Prop extends SameCourse s t where
  plan : t.plan = s.plan

theorem SameCourse.of_same {s t : State} (belt : t.belt = s.belt) (pending : t.pending = s.pending) : SameCourse s t :=
  ⟨congrArg _ belt, congrArg _ belt, congrArg _ belt, congrArg _ belt, pending⟩

theorem SameCourse.trans {s t u : State} (h : SameCourse s t) (g : SameCourse t u) : SameCourse s u :=
  ⟨g.pos.trans h.pos, g.encRef.trans h.encRef, g.speed.trans h.speed, g.state.trans h.state, g.pending.trans h.pending⟩

theorem steady_of_same {s t : State} (belt : t.belt = s.belt) (pending : t.pending = s.pending) (plan : t.plan = s.plan) :
    Steady s t := ⟨.of_same belt pending, plan⟩

theorem Steady.refl (s : State) : Steady s s := steady_of_same rfl rfl rfl

theorem Steady.trans {s t u : State} (h : Steady s t) (g : Steady t u) : Steady s u :=
  ⟨h.toSameCourse.trans g.toSameCourse, g.plan.trans h.plan⟩

theorem LaneSide.steady {s t : State} (h : LaneSide s t) : Steady s t := ⟨.of_same h.belt h.pending, h.plan⟩

theorem DeadlineSide.steady {s t : State} (h : DeadlineSide s t) : Steady s t := ⟨.of_same h.belt h.pending, h.plan⟩

theorem settle_steady (s : State) : Steady s (settle s) := (settle_deadlineSide s).steady

theorem matchLead_steady (p : Pos) (s : State) : Steady s (matchLead p s).2 := by
  rcases matchLead_cases p s with ⟨n, same⟩ | ⟨r, rest, -, same⟩ <;> rw [same]
  · exact (raise_laneSide _ _ _).steady
  · exact (settleHead_deadlineSide [] rest s).steady

theorem decideTote_steady (m : Option ToteFields) (lead : Pos) (s : State) : Steady s (decideTote m lead s).1 := by
  rcases decideTote_drive m lead s with side | ⟨-, side⟩
  · exact side.steady
  · refine Steady.trans ?_ side.steady
    exact steady_of_same rfl rfl rfl

theorem eyeTakes_steady (level : Bool) (s : State) : Steady s (eyeTakes level s) := by
  have edge : ∀ t, Steady t (leadingEdge t) := fun t => by
    have taken : Steady t { t with eye := leadTaken t.belt.pos t.eye } := steady_of_same rfl rfl rfl
    have led := (taken.trans (matchLead_steady t.belt.pos _)).trans
      (decideTote_steady (matchLead t.belt.pos { t with eye := leadTaken t.belt.pos t.eye }).1 t.belt.pos _)
    exact led.trans (steady_of_same rfl rfl rfl)
  have changed : ∀ blocked t, Steady t (eyeChanged blocked t) := fun blocked t => by
    unfold eyeChanged
    split
    · exact edge t
    all_goals exact steady_of_same rfl rfl rfl
  unfold eyeTakes
  dsimp only
  split
  · exact steady_of_same rfl rfl rfl
  · exact Steady.trans (t := { s with pins := { s.pins with eye := level } }) (steady_of_same rfl rfl rfl) (changed _ _)

theorem throwOver_steady (home : Bool) (s : State) : Steady s (throwOver home s) := by
  unfold throwOver throwEnds
  dsimp only
  split
  · exact steady_of_same rfl rfl rfl
  · split <;> exact steady_of_same rfl rfl rfl

theorem returnOver_steady (home : Bool) (s : State) : Steady s (returnOver home s) := by
  unfold returnOver returnEnds
  dsimp only
  split
  · exact steady_of_same rfl rfl rfl
  · split
    · exact steady_of_same rfl rfl rfl
    · split <;> exact steady_of_same rfl rfl rfl

theorem homeBecomesActive_steady (s : State) : Steady s (homeBecomesActive s) := by
  unfold homeBecomesActive
  dsimp only
  split <;> exact steady_of_same rfl rfl rfl

theorem homeWaitOver_steady (s : State) : Steady s (homeWaitOver s) := by
  unfold homeWaitOver
  split <;> exact steady_of_same rfl rfl rfl

theorem zoneEyeTakes_steady (k : Nat) (level : Bool) (s : State) : Steady s (zoneEyeTakes k level s) := by
  unfold zoneEyeTakes
  dsimp only
  split
  · exact steady_of_same rfl rfl rfl
  · exact Steady.trans (t := zeyeTakes k level s) (steady_of_same rfl rfl rfl) (zoneChanged_laneSide _ _ _).steady

theorem buttonTakes_steady (level : Bool) (s : State) : Steady s (buttonTakes level s) := by
  unfold buttonTakes
  dsimp only
  split
  · exact steady_of_same rfl rfl rfl
  · split <;> exact steady_of_same rfl rfl rfl

theorem waitLampOut_steady (s : State) : Steady s (waitLampOut s) := by
  unfold waitLampOut
  split <;> exact steady_of_same rfl rfl rfl

theorem followLos_steady (s : State) : Steady s (followLos s) := by
  unfold followLos
  dsimp only
  split <;> exact steady_of_same rfl rfl rfl

theorem losTakes_steady (level partly : Bool) (s : State) : Steady s (losTakes level partly s) := by
  unfold losTakes
  dsimp only
  split
  · exact steady_of_same rfl rfl rfl
  · refine Steady.trans ?_ (followLos_steady _)
    exact steady_of_same rfl rfl rfl

theorem idleSeen_steady (s : State) : Steady s (idleSeen s) := by
  unfold idleSeen
  split <;> exact steady_of_same rfl rfl rfl

theorem transmitterIdle_steady (s : State) : Steady s (transmitterIdle s) := by
  unfold transmitterIdle
  split <;> exact steady_of_same rfl rfl rfl

theorem pinAsserted_steady (s : State) : Steady s (pinAsserted s) := by
  unfold pinAsserted
  split <;> exact steady_of_same rfl rfl rfl

/-! ### Resets and frames -/

theorem resetBlocks_steady (s : State) : Steady s (resetBlocks s) := by
  unfold resetBlocks
  refine Steady.trans ?_ (rescanInPlace_laneSide _).steady
  exact ⟨⟨rfl, rfl, rfl, rfl, rfl⟩, rfl⟩

theorem takeNodeReset_steady (answer : Option Frame) (s : State) : Steady s (takeNodeReset answer s) := by
  unfold takeNodeReset
  dsimp only
  split
  · refine Steady.trans ?_ (resetBlocks_steady _)
    exact steady_of_same rfl rfl rfl
  · refine Steady.trans ?_ (resetBlocks_steady _)
    exact steady_of_same rfl rfl rfl

theorem pinReleased_steady (s : State) : Steady s (pinReleased s) := by
  unfold pinReleased
  dsimp only
  split
  · refine Steady.trans ?_ (resetBlocks_steady _)
    have followed := followLos_steady { s with
      resetLow := false, report := resetReport .resetPin s.report, line := resetLine s.line }
    exact ⟨⟨followed.pos, followed.encRef, followed.speed, followed.state, followed.pending⟩, followed.plan⟩
  · exact .refl s

theorem badFrame_steady (s : State) : Steady s (badFrame s) := steady_of_same rfl rfl rfl

theorem takeTote_steady (t : ToteFields) (s : State) : Steady s (takeTote t s) := by
  unfold takeTote
  dsimp only
  split <;> exact steady_of_same rfl rfl rfl

theorem forwardFrame_steady (f : Frame) (s : State) : Steady s (forwardFrame f s) := (forwardFrame_laneSide f s).steady

theorem queueAnswer_steady (f : Frame) (s : State) : Steady s (queueAnswer f s) := (queueAnswer_laneSide f s).steady

/-- An ask at the node leaves the course alone, but for what the effect of its code does. -/
theorem askArrives_steady (f : LineFrame) (s : State) :
    Steady s (askArrives f s) ∨ ∃ c fs, askOf f.payload = some (c, fs) ∧ Steady (askEffect c fs s).1 (askArrives f s) := by
  unfold askArrives
  split
  · split
    · rename_i c fs named
      unfold broadcastEffect
      split
      · exact .inr ⟨c, fs, named, forwardFrame_steady _ _⟩
      · exact .inl (forwardFrame_steady _ _)
    · exact .inl (forwardFrame_steady _ _)
  · split
    · split
      · rename_i c fs named
        unfold answeredAsk
        dsimp only
        split
        · exact .inl (queueAnswer_steady _ _)
        · split
          · exact .inl (takeNodeReset_steady _ _)
          · exact .inr ⟨c, fs, named, queueAnswer_steady _ _⟩
      · unfold answeredUnknown
        split <;> exact .inl (queueAnswer_steady _ _)
    · exact .inl (forwardFrame_steady _ _)

theorem frameArrives_steady (f : Frame) (s : State) :
    Steady s (frameArrives f s) ∨ ∃ c fs, askOf f.payload = some (c, fs) ∧ Steady (askEffect c fs s).1 (frameArrives f s) := by
  unfold frameArrives
  dsimp only
  split
  · exact .inl (badFrame_steady s)
  · split
    · unfold numberArrives
      dsimp only
      split
      · refine .inl (Steady.trans ?_ (forwardFrame_steady _ _))
        exact steady_of_same rfl rfl rfl
      · exact .inl (badFrame_steady s)
    · unfold toteArrives
      split
      · exact .inl (takeTote_steady _ s)
      · exact .inl (badFrame_steady s)
    · exact askArrives_steady _ s
    · exact .inl (forwardFrame_steady _ _)
    · exact .inl (forwardFrame_steady _ _)

theorem received_steady (f : Frame) (s : State) :
    Steady s (received f s) ∨ ∃ c fs, askOf f.payload = some (c, fs) ∧ Steady (askEffect c fs s).1 (received f s) := by
  unfold received
  split
  · exact frameArrives_steady f s
  · exact .inl (.refl s)

theorem receivedRaw_steady (raw : RawFrame) (s : State) :
    Steady s (receivedRaw raw s) ∨ ∃ c fs, Steady (askEffect c fs s).1 (receivedRaw raw s) := by
  unfold receivedRaw
  split
  · split
    · rename_i f _
      exact (frameArrives_steady f s).imp id fun ⟨c, fs, _, steady⟩ => ⟨c, fs, steady⟩
    · exact .inl (badFrame_steady s)
  · exact .inl (.refl s)

/-! ### Asks -/

theorem takeLine_steady (fs : List Byte) (s : State) : SameCourse s (takeLine fs s).1 ∧ (takeLine fs s).1.plan = s.plan := by
  have delivered : ∀ trail t, Steady t (deliverTrail trail t) := fun trail t => (deliverTrail_deadlineSide trail t).steady
  have polarity : ∀ t, Steady t (polarityChanged t) := fun t => by
    unfold polarityChanged
    dsimp only
    split
    · exact (delivered _ t).trans (steady_of_same rfl rfl rfl)
    · exact steady_of_same rfl rfl rfl
  have applied : ∀ edge gate polarity, Steady s (lineSettings fs edge gate polarity s) := fun edge gate polarity => by
    unfold lineSettings lineBelt
    split <;> exact ⟨⟨rfl, rfl, rfl, rfl, rfl⟩, rfl⟩
  unfold takeLine
  split
  · dsimp only
    split
    · exact ⟨(applied _ _ _).toSameCourse, (applied _ _ _).plan⟩
    · exact ⟨((applied _ _ _).trans (polarity _)).toSameCourse, ((applied _ _ _).trans (polarity _)).plan⟩
  · exact ⟨(Steady.refl s).toSameCourse, rfl⟩

theorem takeLane_steady (fs : List Byte) (s : State) : Steady s (takeLane fs s).1 := by
  have applied : ∀ mode polarity, Steady s (applyLane fs mode polarity s) := fun mode polarity => by
    unfold applyLane lanePolarityChanged
    dsimp only
    split
    · refine Steady.trans ?_ (((trim_laneSide _).trans (evalReady_laneSide _)).trans (settleLane_laneSide _)).steady
      exact steady_of_same rfl rfl rfl
    · refine Steady.trans ?_ (rescanInPlace_laneSide _).steady
      exact steady_of_same rfl rfl rfl
  unfold takeLane
  split
  · split
    · exact .refl s
    · split
      · exact .refl s
      · exact applied _ _
  · exact .refl s

theorem takeClearFlags_steady (fs : List Byte) (s : State) : Steady s (takeClearFlags fs s).1 := by
  unfold takeClearFlags
  split <;> exact steady_of_same rfl rfl rfl

theorem takeClearFault_steady (fs : List Byte) (s : State) : Steady s (takeClearFault fs s).1 := by
  have diverter : ∀ t, Steady t (clearDiverter t) := fun t => by
    unfold clearDiverter
    split <;> exact steady_of_same rfl rfl rfl
  have lane : ∀ t, Steady t (clearLane t) := fun t => by
    unfold clearLane
    split
    · exact (rescanToRunning_laneSide t).steady
    · exact .refl t
  unfold takeClearFault
  dsimp only
  split
  · have checked : Steady s (if (field1 fs 0).testBit 0 then clearDiverter s else s) := by
      split
      · exact diverter s
      · exact .refl s
    split
    · exact checked.trans (lane _)
    · exact checked
  · exact .refl s

theorem takePause_steady (s : State) : Steady s (takePause s).1 := by
  unfold takePause
  split
  · exact .refl s
  · exact .refl s
  · dsimp only
    refine Steady.trans ?_ (evalReady_laneSide _).steady
    exact steady_of_same rfl rfl rfl

theorem takeResume_steady (s : State) : Steady s (takeResume s).1 := by
  unfold takeResume
  split
  · exact .refl s
  · exact .refl s
  · dsimp only
    refine Steady.trans ?_ (evalReady_laneSide _).steady
    exact steady_of_same rfl rfl rfl

theorem takeReleaseAsk_steady (s : State) : Steady s (takeReleaseAsk s).1 := by
  have side : LaneSide s (settleLane (releaseRequest 1 s)) := (releaseRequest_laneSide 1 s).trans (settleLane_laneSide _)
  exact side.steady

/-- What a plan ask makes of the plan; every other ask leaves it. -/
def planEffect (c : AskCode) (fs : List Byte) (p : RoutePlan) : RoutePlan :=
  match c with
  | .setWindow => (planSetWindow fs p).1
  | .writeEntries => (planWriteEntries fs p).1
  | .continueEntries => (planContinueEntries fs p).1
  | .readEntries => (planReadEntries fs p).1
  | .continueRead => (planContinueRead fs p).1
  | .swapPlan => (planSwap p).1
  | .copyPlan => (planCopy p).1
  | .readStatus | .readIdentity | .readTracking | .readLane | .readReservations | .setGeometry | .setLine | .setLane
  | .setReports | .clearFlags | .clearFault | .pauseLane | .resumeLane | .release | .nodeReset => p

/-- An ask leaves the course alone, and does to the plan what its code says. -/
theorem askEffect_course (c : AskCode) (fs : List Byte) (s : State) :
    SameCourse s (askEffect c fs s).1 ∧ (askEffect c fs s).1.plan = planEffect c fs s.plan := by
  have steady : ∀ {t}, Steady s t → SameCourse s t ∧ t.plan = s.plan := fun h => ⟨h.toSameCourse, h.plan⟩
  cases c <;> unfold askEffect planEffect
  case setLine => exact takeLine_steady fs s
  case setLane => exact steady (takeLane_steady fs s)
  case clearFlags => exact steady (takeClearFlags_steady fs s)
  case clearFault => exact steady (takeClearFault_steady fs s)
  case pauseLane => exact steady (takePause_steady s)
  case resumeLane => exact steady (takeResume_steady s)
  case release => exact steady (takeReleaseAsk_steady s)
  case nodeReset =>
    dsimp only
    exact steady (takeNodeReset_steady none s)
  all_goals exact ⟨.of_same rfl rfl, rfl⟩

/-! ### Commands -/

/-- Every command but power-on, an encoder edge and a gate's end leaves the course and the plan alone, but for the effect of an ask. -/
theorem exec_steady {c : Instr} (s : State) (noPower : ∀ enc levels, c ≠ .powerOn enc levels)
    (noEdge : ∀ level, c ≠ .encoderEdge level) (noGate : c ≠ .gateExpiry) :
    ∃ t, exec c s = .next t ∧ (Steady s t ∨ ∃ u d fs, Steady s u ∧ Steady (askEffect d fs u).1 t) := by
  have first := settle_steady s
  have received : ∀ f, Steady s (received f (settle s)) ∨ ∃ u d fs, Steady s u ∧ Steady (askEffect d fs u).1 (received f (settle s)) :=
    fun f => (received_steady f (settle s)).imp first.trans fun ⟨d, fs, _, effect⟩ => ⟨settle s, d, fs, first, effect⟩
  cases c <;> refine ⟨_, rfl, ?_⟩
  case powerOn enc levels => exact absurd rfl (noPower enc levels)
  case encoderEdge level => exact absurd rfl (noEdge level)
  case gateExpiry => exact absurd rfl noGate
  case resetPinAssert => exact .inl (first.trans (pinAsserted_steady _))
  case resetPinRelease => exact .inl (pinReleased_steady s)
  case eyeChange level => exact .inl (first.trans (eyeTakes_steady level _))
  case trailingEdge => exact .inl (takeTrailing_deadlineSide s).steady
  case blockedDeadline => exact .inl (takeBlocked_deadlineSide s).steady
  case headDeadlineExpiry => exact .inl (takeHead_deadlineSide s).steady
  case reservationExpiry => exact .inl (takeReservations_laneSide s).steady
  case fireReached => exact .inl (takeFire_deadlineSide s).steady
  case throwEnd home => exact .inl (first.trans (throwOver_steady home _))
  case releaseReached => exact .inl (takeRelease_deadlineSide s).steady
  case returnEnd home => exact .inl (first.trans (returnOver_steady home _))
  case homeActive => exact .inl (first.trans (homeBecomesActive_steady _))
  case homeWaitExpiry => exact .inl (first.trans (homeWaitOver_steady _))
  case zoneEyeChange zone level => exact .inl (first.trans (zoneEyeTakes_steady _ level _))
  case transferTimeout zone => exact .inl (first.trans (transferRunsOut_laneSide _ _).steady)
  case entryDeadline => exact .inl (takeEntries_laneSide s).steady
  case dischargeTimeout => exact .inl (first.trans (dischargeRunsOut_laneSide _).steady)
  case buttonChange level => exact .inl (first.trans (buttonTakes_steady level _))
  case buttonPress => exact .inl (first.trans (pressTaken_laneSide _).steady)
  case waitLampExpiry => exact .inl (first.trans (waitLampOut_steady _))
  case losChange level partly => exact .inl (first.trans (losTakes_steady level partly _))
  case frameError raw =>
    exact (receivedRaw_steady raw (settle s)).imp first.trans fun ⟨d, fs, effect⟩ => ⟨settle s, d, fs, first, effect⟩
  case transmitterFree => exact .inl (first.trans (transmitterIdle_steady _))
  case receiverIdleWaitEnd => exact .inl (first.trans (idleSeen_steady _))
  all_goals exact received _

theorem encTakes_course (gateRuns level : Bool) (b : Belt) :
    (encTakes gateRuns level b).speed = b.speed ∧ (encTakes gateRuns level b).state = b.state := by
  rw [encTakes_eq]
  split
  · exact ⟨rfl, rfl⟩
  · split <;> exact ⟨rfl, rfl⟩

theorem gateOver_pos (s : State) :
    (gateOver s).belt.pos = s.belt.pos ∧ (gateOver s).belt.encRef = s.belt.encRef ∧ (gateOver s).pending = s.pending ∧
      (gateOver s).plan = s.plan := by
  unfold gateOver gateEnds
  dsimp only
  split
  · exact ⟨rfl, rfl, rfl, rfl⟩
  · split <;> exact ⟨rfl, rfl, rfl, rfl⟩

/-- Settles O4: power-on loads its own course, an edge moves P and a gate's end moves S; all others are steady. -/
theorem everyCommandCompletes : Obligations.EveryCommandCompletes := by
  intro c s
  have first := settle_steady s
  by_cases power : ∃ enc levels, c = .powerOn enc levels
  · obtain ⟨enc, levels, rfl⟩ := power
    refine ⟨powerUp enc levels s, rfl, ?_, fun other => absurd rfl (other enc levels)⟩
    exact (rescanInPlace_laneSide _).pending
  by_cases edge : ∃ level, c = .encoderEdge level
  · obtain ⟨level, rfl⟩ := edge
    have kept := encTakes_course (!(settle s).resetLow) level (settle s).belt
    exact ⟨_, rfl, first.pending, fun _ =>
      ⟨fun other => absurd rfl (other level), fun _ => ⟨kept.1.trans first.speed, kept.2.trans first.state⟩⟩⟩
  by_cases gate : c = .gateExpiry
  · subst gate
    obtain ⟨pos, ref, pending, -⟩ := gateOver_pos (settle s)
    exact ⟨_, rfl, pending.trans first.pending, fun _ =>
      ⟨fun _ => ⟨pos.trans first.pos, ref.trans first.encRef⟩, fun other => absurd rfl other⟩⟩
  obtain ⟨t, next, steady⟩ := exec_steady s (fun enc levels h => power ⟨enc, levels, h⟩) (fun level h => edge ⟨level, h⟩) gate
  have course : SameCourse s t := by
    rcases steady with h | ⟨u, d, fs, before, after⟩
    · exact h.toSameCourse
    · exact (before.toSameCourse.trans (askEffect_course d fs u).1).trans after.toSameCourse
  exact ⟨t, next, course.pending, fun _ => ⟨fun _ => ⟨course.pos, course.encRef⟩, fun _ => ⟨course.speed, course.state⟩⟩⟩

/-! ### What writes the Route Plan -/

@[simp] theorem bankCells_putBank_other (p : RoutePlan) (k : Bank) (cells : BankCells) :
    bankCells (putBank p (otherBank k) cells) k = bankCells p k := by
  cases k <;> rfl

@[simp] theorem bankCells_putBank_self (p : RoutePlan) (k : Bank) (cells : BankCells) : bankCells (putBank p k cells) k = cells := by
  cases k <;> rfl

@[simp] theorem putBank_active (p : RoutePlan) (k : Bank) (cells : BankCells) : (putBank p k cells).active = p.active := by
  cases k <;> rfl

/-- A load leaves the marker and the active bank alone (R51, R55). -/
theorem storeValues_active (vs : List Byte) (l : Load) :
    (storeValues vs l).plan.active = l.plan.active ∧
      bankCells (storeValues vs l).plan l.plan.active = bankCells l.plan l.plan.active := by
  induction vs generalizing l with
  | nil => exact ⟨rfl, rfl⟩
  | cons v vs ih =>
    unfold storeValues
    split
    · exact ⟨rfl, rfl⟩
    · have stored : (storeValue l.plan v).active = l.plan.active ∧
          bankCells (storeValue l.plan v) l.plan.active = bankCells l.plan l.plan.active :=
        ⟨putBank_active _ _ _, bankCells_putBank_other l.plan l.plan.active _⟩
      obtain ⟨active, cells⟩ := ih { plan := storeValue l.plan v, written := l.written + 1, clamped := l.clamped || (actionOfCode v.toNat).isNone }
      rw [stored.1] at active cells
      exact ⟨active, cells.trans stored.2⟩

/-- A read moves the read cursor alone (R58, R62). -/
theorem readFrom_plan (start : Cursor) (selector count : Nat) (p : RoutePlan) :
    (readFrom start selector count p).1 = { p with read := (readFrom start selector count p).1.read } := by
  unfold readFrom
  split
  · rfl
  · dsimp only
    split <;> rfl

theorem readFrom_cells (start : Cursor) (selector count : Nat) (p : RoutePlan) (k : Bank) :
    bankCells (readFrom start selector count p).1 k = bankCells p k := by
  rw [readFrom_plan]
  cases k <;> rfl

/-- No ask writes the active bank (R55, R63, R65). -/
theorem planEffect_active (c : AskCode) (fs : List Byte) (p : RoutePlan) :
    bankCells (planEffect c fs p) p.active = bankCells p p.active := by
  cases c <;> unfold planEffect
  case setWindow =>
    show bankCells (planSetWindow fs p).1 p.active = _
    unfold planSetWindow
    dsimp only
    split
    · rfl
    · split
      · cases p.active <;> rfl
      · rfl
  case writeEntries => exact (storeValues_active fs _).2
  case continueEntries => exact (storeValues_active fs _).2
  case readEntries => exact readFrom_cells _ _ _ _ _
  case continueRead => exact readFrom_cells _ _ _ _ _
  case swapPlan => cases p.active <;> rfl
  case copyPlan =>
    rw [planCopy_eq]
    exact bankCells_of_equal rfl rfl _
  all_goals rfl

theorem exec_activeBank {c : Instr} {s t : State} (next : exec c s = .next t) (noPower : ∀ enc levels, c ≠ .powerOn enc levels) :
    bankCells t.plan s.plan.active = bankCells s.plan s.plan.active := by
  have same : t.plan = s.plan → bankCells t.plan s.plan.active = bankCells s.plan s.plan.active := fun h => by rw [h]
  have first := settle_steady s
  by_cases edge : ∃ level, c = .encoderEdge level
  · obtain ⟨level, rfl⟩ := edge
    obtain rfl := Host.Outcome.next.inj next
    exact same first.plan
  by_cases gate : c = .gateExpiry
  · subst gate
    obtain rfl := Host.Outcome.next.inj next
    exact same ((gateOver_pos _).2.2.2.trans first.plan)
  obtain ⟨u, reached, steady⟩ := exec_steady s noPower (fun level h => edge ⟨level, h⟩) gate
  obtain rfl := Host.Outcome.next.inj (next.symm.trans reached)
  rcases steady with h | ⟨u, d, fs, before, after⟩
  · exact same h.plan
  · rw [after.plan, (askEffect_course d fs u).2, before.plan]
    exact planEffect_active d fs s.plan

/-- Settles O24: the plan after an ask is what its code's effect makes of it. -/
theorem activeBankIsNeverLoaded : Obligations.ActiveBankIsNeverLoaded := by
  refine ⟨fun c s t next noPower => exec_activeBank next noPower, fun code a s t next loads => ?_⟩
  rw [exec_askCommand] at next
  obtain rfl := Host.Outcome.next.inj next
  have first := (settle_steady s).plan
  have effect : (received (ofKind .ask (askFrame code a)) (settle s)).plan = s.plan ∨
      (received (ofKind .ask (askFrame code a)) (settle s)).plan = planEffect code a.fields s.plan := by
    rcases received_steady (ofKind .ask (askFrame code a)) (settle s) with h | ⟨c, fs, named, h⟩
    · exact .inl (h.plan.trans first)
    · have code_eq : askOf (code.code :: a.fields) = some (code, a.fields) := by
        simp only [askOf, askOfByte_code, Option.map_some]
      obtain ⟨rfl, rfl⟩ := Prod.mk.inj (Option.some.inj (code_eq.symm.trans named))
      exact .inr (by rw [h.plan, (askEffect_course code a.fields _).2, first])
  rcases effect with h | h
  · rw [h]
    exact ⟨rfl, fun _ _ => rfl⟩
  · rw [h]
    cases code
    case readEntries => exact ⟨readFrom_plan _ _ _ _, fun other => absurd rfl other⟩
    case continueRead => exact ⟨readFrom_plan _ _ _ _, fun _ other => absurd rfl other⟩
    case setWindow => exact absurd (by decide) loads
    case writeEntries => exact absurd (by decide) loads
    case continueEntries => exact absurd (by decide) loads
    case swapPlan => exact absurd (by decide) loads
    case copyPlan => exact absurd (by decide) loads
    all_goals exact ⟨rfl, fun _ _ => rfl⟩

/-! ### While RESET_N is low -/

theorem takesFrames_of_resetLow {s : State} (low : s.resetLow = true) : takesFrames s = false := by
  simp [takesFrames, low]

/-- While RESET_N is low no command but power-on and the release changes more than the pins, P and the reference level (R4, R158). -/
theorem exec_of_resetLow {c : Instr} {s t : State} (low : s.resetLow = true) (next : exec c s = .next t)
    (noPower : ∀ enc levels, c ≠ .powerOn enc levels) (noRelease : c ≠ .resetPinRelease) :
    t = { s with pins := t.pins, belt := { s.belt with pos := t.belt.pos, encRef := t.belt.encRef } } := by
  have still : ∀ {u : State}, u = s → u = { s with pins := u.pins, belt := { s.belt with pos := u.belt.pos, encRef := u.belt.encRef } } :=
    fun h => by rw [h]
  have quiet := anyDue_of_resetLow low
  simp only [anyDue, Bool.or_eq_false_iff] at quiet
  obtain ⟨⟨⟨⟨⟨⟨trailing, blocked⟩, head⟩, reservation⟩, fire⟩, release⟩, entry⟩ := quiet
  have settled := settle_of_resetLow low
  cases c <;> obtain rfl := Host.Outcome.next.inj next
  case powerOn enc levels => exact absurd rfl (noPower enc levels)
  case resetPinRelease => exact absurd rfl noRelease
  case trailingEdge => exact still (takeTrailing_of_not_due trailing)
  case blockedDeadline => exact still (takeBlocked_of_not_due blocked)
  case headDeadlineExpiry => exact still (takeHead_of_not_due head)
  case reservationExpiry => exact still (takeReservations_of_not_due reservation)
  case fireReached => exact still (takeFire_of_not_due fire)
  case releaseReached => exact still (takeRelease_of_not_due release)
  case entryDeadline => exact still (takeEntries_of_not_due entry)
  all_goals rw [settled]
  case resetPinAssert => exact still (by simp [pinAsserted, low])
  case encoderEdge level =>
    rw [low, encTakes_eq]
    by_cases same : level = s.belt.encRef
    · simp [same]
    · by_cases counts : counted s.belt.edgeSelect level = true <;> simp [same, counts]
  case gateExpiry => exact still (by simp [gateOver, low])
  case eyeChange level => simp [eyeTakes, low]
  case throwEnd home => simp [throwOver, homeReads, low]
  case returnEnd home => simp [returnOver, homeReads, low]
  case homeActive => simp [homeBecomesActive, homeReads, low]
  case homeWaitExpiry => exact still (by simp [homeWaitOver, low])
  case zoneEyeChange zone level => simp [zoneEyeTakes, zeyeTakes, low]
  case transferTimeout zone => exact still (by simp [transferRunsOut, low])
  case dischargeTimeout => exact still (by simp [dischargeRunsOut, low])
  case buttonChange level => simp [buttonTakes, low]
  case buttonPress => exact still (by simp [pressTaken, low])
  case waitLampExpiry => exact still (by simp [waitLampOut, low])
  case losChange level partly => simp [losTakes, low]
  case frameError raw => exact still (by simp [receivedRaw, takesFrames_of_resetLow low])
  case transmitterFree => exact still (by simp [transmitterIdle, low])
  case receiverIdleWaitEnd => exact still (by simp [idleSeen, low])
  all_goals exact still (received_of_deaf (takesFrames_of_resetLow low) _)

/-- Settles O53: the assert cuts the transmitter off, and then only pins and P follow their inputs. -/
theorem resetPinHoldsTheNode : Obligations.ResetPinHoldsTheNode := by
  refine ⟨fun s calm => ?_, fun c s t low next noPower noRelease => exec_of_resetLow low next noPower noRelease⟩
  show Host.Outcome.next (pinAsserted (settle s)) = _
  rw [settle_of_calm calm, pinAsserted, calm.1]
  rfl

end Sys2Proof.Machine
end

section
/-! SUPPORT. Events and the tote on the eye, one command each: the raised event, the leading edge's neighbours, the trailing edge, the blocked
eye and the Tracking Unit's frames and expiries (chapters 2, 3 and section 10.4). -/

namespace Sys2Proof.Machine

/-! ### Raised events -/

theorem noteKind_code_inj {j k : NoteKind} (h : j.code = k.code) : j = k := by
  cases j <;> cases k <;> first | rfl | exact absurd h (by decide)

theorem noteKind_code_range (k : NoteKind) : 1 ≤ k.code ∧ k.code ≤ 21 := by cases k <;> decide

/-- The set with one kind joined holds that kind and the kinds of before (R168). -/
theorem inSet_or_bit (j k : NoteKind) (set : KindSet) : inSet j (set ||| k.bit) = (inSet j set || j == k) := by
  have own : (k.bit).getLsbD (j.code - 1) = (j == k) := by
    obtain ⟨lowJ, highJ⟩ := noteKind_code_range j
    obtain ⟨lowK, highK⟩ := noteKind_code_range k
    have place : j.code - 1 < 21 := by omega
    have one : ∀ i, (1#21).getLsbD i = decide (i = 0) := fun i => by
      rw [BitVec.getLsbD_one]
      simp
    rw [NoteKind.bit, BitVec.getLsbD_shiftLeft, one]
    by_cases same : j = k
    · subst same
      simp [place]
    · have codes : j.code ≠ k.code := fun h => same (noteKind_code_inj h)
      by_cases before : j.code - 1 < k.code - 1
      · simp [same, before]
      · have other : j.code - 1 - (k.code - 1) ≠ 0 := by omega
        simp [same, other]
  rw [inSet, BitVec.getLsbD_or, own]
  rfl

/-- Settles O5: the flag is one bit, and the note takes the local queue's tail or is lost. -/
theorem raisedEventSetsFlagAndNote : Obligations.RaisedEventSetsFlagAndNote := by
  intro k n s t on note
  refine ⟨rfl, fun j => inSet_or_bit j k s.report.flags, fun off => ?_, fun enabled room => ?_, fun enabled full => ?_⟩
  · have quiet : noted k s.report = false := off
    simp [t, raise, quiet]
  · have loud : noted k s.report = true := enabled
    have open_ : localFull s.line = false := by
      rw [Bool.eq_false_iff, ne_eq, localFull_iff]
      omega
    refine ⟨by simp [t, raise, loud, open_], ?_⟩
    simp only [t, raise, loud, if_true, localJoin, open_, Bool.false_eq_true, if_false]
    rfl
  · have loud : noted k s.report = true := enabled
    have full_ : localFull s.line = true := (localFull_iff _).mpr full
    simp [t, raise, loud, full_, localJoin]

/-! ### Eye changes within a tote -/

theorem exec_eyeChange {s : State} (calm : Calm s) (level : Bool) :
    exec (.eyeChange level) s =
      .next (eyeChanged (readsBlocked s.eye.polarity level) { s with pins := { s.pins with eye := level } }) := by
  show Host.Outcome.next (eyeTakes level (settle s)) = _
  rw [settle_of_calm calm, eyeTakes, calm.1, if_neg Bool.false_ne_true]

/-- Settles O12, one eye state after the other. -/
theorem eyeChangeWithinTote : Obligations.EyeChangeWithinTote := by
  intro level s calm read
  refine ⟨fun state reads => ?_, fun state reads => ?_, fun state reads => ?_, fun state reads => ?_, fun state reads => ?_⟩
  all_goals
    rw [exec_eyeChange calm, reads]
    simp only [eyeChanged, state]
    rfl

/-! ### The trailing edge -/

theorem lengthCheck_eye (trail : Pos) (s : State) : (lengthCheck trail s).eye = s.eye := (lengthCheck_laneSide trail s).eye

/-- A confirmed trailing edge: the length check, the delivery of the position, the eye with no tote (R20 to R23). -/
theorem confirmTrail_eq {s : State} {trail : Pos} (clearing : s.eye.clearing = some trail) :
    confirmTrail s = { (if deliversTrail s.eye.context then trailingTaken trail (lengthCheck trail s) else lengthCheck trail s) with
      eye := clearedEye s.eye } := by
  have eye : (deliverTrail trail (lengthCheck trail s)).eye = s.eye := by rw [deliverTrail_eq]; exact lengthCheck_eye trail s
  unfold confirmTrail
  simp only [clearing, Option.getD_some, eye]
  unfold deliverTrail
  rw [lengthCheck_eye]

theorem deliversTrail_iff (c : EyeContext) (o : ToteOutcome) (outcome : contextOutcome c = some o) :
    deliversTrail c = true ↔ o = .diverted ∨ o = .crowded := by
  simp [deliversTrail, outcome]

/-- The length check of a matched tote, with its limit and its value written out (R21, R22). -/
theorem lengthCheck_of_matched {s : State} {t : ToteFields} {lead : Pos} {o : ToteOutcome}
    (context : s.eye.context = .matched t lead o) (trail : Pos) :
    lengthCheck trail s =
      if (s.eye.tolerance : Int) < |signedDist lead trail - (s.eye.nominal.get t.cls : Int)| then
        raise .lengthMismatch ⟨t.tag, t.order, t.cls.val,
          if 0 ≤ signedDist lead trail ∧ signedDist lead trail ≤ 65535 then BitVec.ofInt 16 (signedDist lead trail) else 65535,
          trail⟩ s
      else s := by
  have limit : (s.eye.tolerance : Int) < |signedDist lead trail - (s.eye.nominal.get t.cls : Int)| ↔
      s.eye.tolerance < (signedDist lead trail - (s.eye.nominal.get t.cls : Int)).natAbs := by
    rw [Int.abs_eq_natAbs]
    exact Int.ofNat_lt
  simp only [lengthCheck, context, limit]
  rfl

theorem lengthCheck_of_unmatched {s : State} (unmatched : ∀ t lead o, s.eye.context ≠ .matched t lead o) (trail : Pos) :
    lengthCheck trail s = s := by
  unfold lengthCheck
  split
  · exact absurd ‹_› (unmatched _ _ _)
  all_goals rfl

theorem trailingDue_iff {s : State} (high : s.resetLow = false) :
    trailingDue s = true ↔ s.eye.debounceEnd = some s.belt.pos ∧ s.eye.state = .clearing := by
  simp [trailingDue, reaches, high]

/-- Settles O13: the length check and the delivery by the tote's context. -/
theorem trailingEdgeIsConfirmed : Obligations.TrailingEdgeIsConfirmed := by
  refine ⟨fun s trail high state clearing debounce => ?_, fun s away => ?_⟩
  · intro cleared
    have confirmed : exec .trailingEdge s = .next (confirmTrail s) :=
      congrArg Host.Outcome.next (if_pos ((trailingDue_iff high).mpr ⟨debounce, state⟩))
    refine ⟨fun tote lead outcome context => ?_, fun lead outcome context => ?_, fun context => ?_⟩
    · intro length checked
      have check : lengthCheck trail s = checked := lengthCheck_of_matched context trail
      rw [confirmed, confirmTrail_eq clearing, check]
      simp only [deliversTrail_iff s.eye.context outcome (by rw [context]; rfl)]
      rfl
    · rw [confirmed, confirmTrail_eq clearing, lengthCheck_of_unmatched (by simp [context])]
      simp only [deliversTrail_iff s.eye.context outcome (by rw [context]; rfl)]
      rfl
    · rw [confirmed, confirmTrail_eq clearing, lengthCheck_of_unmatched (by simp [context]), context]
      rfl
  · refine congrArg Host.Outcome.next (takeTrailing_of_not_due ?_)
    rcases away with other | other
    · simp [trailingDue, other]
    · simp [trailingDue, reaches_of_ne other]

/-- Out of REST and FAULT a trailing position sets release and clear, and in HOLDING a release already reached starts the return (R101). -/
theorem trailingTaken_of_moving {s : State} (notRest : s.diverter.state ≠ .rest) (notFault : s.diverter.state ≠ .fault) (trail : Pos) :
    trailingTaken trail s =
      let release := releasePosition trail s.diverter.geometry
      let moved : Diverter :=
        { s.diverter with release := some release, clear := some (plus release (returnLead s)), flag := false }
      if s.diverter.state = .holding ∧ signedDist s.belt.pos release ≤ 0 then { s with diverter := startReturn moved }
      else { s with diverter := moved } := by
  unfold trailingTaken
  dsimp only
  split
  · exact absurd ‹_› notRest
  · exact absurd ‹_› notFault
  all_goals simp only [reachedWhenSet_iff]

/-- Settles O14, one state of the diverter after the other. -/
theorem trailingPositionSetsRelease : Obligations.TrailingPositionSetsRelease := by
  intro trail s g release lead moved
  refine ⟨fun state => ?_, fun state => ?_, fun state => ?_⟩
  · rcases state with h | h <;> simp only [trailingTaken, h]
  · have moving : s.diverter.state ≠ .rest ∧ s.diverter.state ≠ .fault ∧ s.diverter.state ≠ .holding := by
      rcases state with h | h | h <;> simp [h]
    obtain ⟨notRest, notFault, notHolding⟩ := moving
    exact (trailingTaken_of_moving notRest notFault trail).trans (if_neg fun h => notHolding h.1)
  · have moving := trailingTaken_of_moving (s := s) (by simp [state]) (by simp [state]) trail
    by_cases reached : signedDist s.belt.pos release ≤ 0
    · exact moving.trans ((if_pos ⟨state, reached⟩).trans (if_pos reached).symm)
    · exact moving.trans ((if_neg fun h => reached h.2).trans (if_neg reached).symm)

/-! ### The blocked eye -/

theorem takeBlocked_of_trailing {s : State} (trailing : trailingDue s = true) (blocked : blockedDue s = true) :
    takeBlocked s = confirmTrail s := if_pos (by rw [trailing, blocked]; rfl)

theorem takeBlocked_of_alone {s : State} {d : BlockedDeadline} (trailing : trailingDue s = false) (blocked : blockedDue s = true)
    (deadline : s.eye.blockedDeadline = some d) : takeBlocked s = eyeBlocked d s := by
  simp only [takeBlocked, trailing, blocked, deadline, Bool.false_and, Bool.false_eq_true, if_false, if_true]

theorem eyeBlocked_of_tags {s : State} {tag order : Ident} {detail : Nat} (tags : blockedTags s.eye.context = (tag, order, detail))
    (d : BlockedDeadline) :
    eyeBlocked d s = raise .eyeBlocked ⟨tag, order, detail, BitVec.ofNat 16 d.maxLength, s.belt.pos⟩
      { s with eye := { s.eye with blockedDeadline := none } } := by
  simp only [eyeBlocked, tags, valueOf]

/-- Settles O15: the trailing edge of the same count event comes first, and otherwise the eye's context gives the note. -/
theorem blockedEyeIsReportedOnce : Obligations.BlockedEyeIsReportedOnce := by
  intro s longest high occupied deadline removed note
  have due : blockedDue s = true := by
    simp [blockedDue, reaches, high, deadline, occupied]
  refine ⟨fun state debounce => ?_, fun away => ?_⟩
  · have trailing : trailingDue s = true := (trailingDue_iff high).mpr ⟨debounce, state⟩
    show Host.Outcome.next (takeBlocked s) = Host.Outcome.next (takeTrailing s)
    rw [takeBlocked_of_trailing trailing due, takeTrailing, if_pos trailing]
  · have trailing : trailingDue s = false := by
      rw [Bool.eq_false_iff, ne_eq, trailingDue_iff high]
      rintro ⟨debounce, state⟩
      rcases away with other | other
      · rw [other] at state
        cases state
      · exact other debounce
    have alone : exec .blockedDeadline s = .next (eyeBlocked ⟨s.belt.pos, longest⟩ s) :=
      congrArg Host.Outcome.next (takeBlocked_of_alone trailing due deadline)
    refine ⟨fun tote lead outcome context => ?_, fun lead outcome context => ?_, fun context => ?_⟩
    · exact alone.trans (congrArg Host.Outcome.next (eyeBlocked_of_tags (by rw [context]; rfl) _))
    · exact alone.trans (congrArg Host.Outcome.next (eyeBlocked_of_tags (by rw [context]; rfl) _))
    · exact alone.trans (congrArg Host.Outcome.next (eyeBlocked_of_tags (by rw [context]; rfl) _))

end Sys2Proof.Machine
end

section
/-! SUPPORT. The Tracking Unit's frames, its runs of missed records, and the lists that P empties (sections 3.3, 3.4, 5.6 and 7.3). -/

namespace Sys2Proof.Machine

/-! ### TOTE frames -/

theorem frameArrives_tote {f : LineFrame} (short : f.payload.length ≤ 32) (s : State) :
    frameArrives (ofKind .tote f) s = toteArrives f s := if_neg (Nat.not_lt.mpr short)

theorem exec_toteFrame {s : State} (listening : Listening s) {f : LineFrame} (short : f.payload.length ≤ 32) :
    exec (.toteFrame f) s = .next (toteArrives f s) := by
  show Host.Outcome.next (received (ofKind .tote f) (settle s)) = _
  rw [received_of_listening listening, frameArrives_tote short]

theorem exec_toteFrame_bad {s : State} (listening : Listening s) {f : LineFrame} (other : f.payload.length ≠ 9) :
    exec (.toteFrame f) s = .next (badFrame s) := by
  show Host.Outcome.next (received (ofKind .tote f) (settle s)) = _
  rw [received_of_listening listening, frameArrives]
  split
  · rfl
  · exact congrArg Host.Outcome.next (if_neg other)

/-- The byte of a destination as the two bytes of a note's value. -/
theorem destByte_value (d : Option (Fin 64)) :
    (destByte d).setWidth 16 = match d with | some d => BitVec.ofNat 16 d.val | none => 255 := by
  cases d with
  | none => rfl
  | some d =>
    refine BitVec.eq_of_toNat_eq ?_
    have small := d.isLt
    simp only [destByte, BitVec.toNat_setWidth, BitVec.toNat_ofNat]
    omega

/-- Settles O16: the frame by its length, and the queue by its room. -/
theorem toteFrameIsTracked : Obligations.ToteFrameIsTracked := by
  refine ⟨fun f s listening => ⟨fun other => exec_toteFrame_bad listening other, fun length => ?_⟩, fun f s calm deaf => ?_⟩
  · intro tote expected record
    have arrives : exec (.toteFrame f) s = .next (takeTote tote s) := by
      rw [exec_toteFrame listening (by omega), toteArrives, if_pos length]
    refine ⟨fun room => ?_, fun full => ?_⟩
    · rw [arrives, takeTote, if_pos (show s.tracking.queue.length < Config.trackingDepth from room)]
      cases waits : s.tracking.queue <;> rfl
    · rw [arrives, takeTote, if_neg (show ¬ s.tracking.queue.length < Config.trackingDepth from Nat.not_lt.mpr full),
        destByte_value]
      rfl
  · have takesNone : takesFrames s = false := by
      rcases deaf with down | waits
      · simp [takesFrames, down]
      · simp [takesFrames, waits]
    show Host.Outcome.next (received (ofKind .tote f) (settle s)) = _
    rw [settle_of_calm calm, received_of_deaf takesNone]

/-! ### Normalisation -/

theorem clamp_eq_ite {lo hi : Nat} (ordered : lo ≤ hi) (v : Nat) : clamp lo hi v = if v < lo then lo else if hi < v then hi else v := by
  unfold clamp
  split
  · omega
  · split <;> omega

theorem destOfByte_val (b : Byte) : (destOfByte b).map (·.val) = if b.toNat < 64 then some b.toNat else none := by
  unfold destOfByte
  split
  · rfl
  · rfl

theorem classOfByte_val (b : Byte) : (classOfByte b).val = if b.toNat ≤ 3 then b.toNat else 0 := by
  unfold classOfByte
  split
  · rename_i small
    rw [if_pos (by omega)]
  · rename_i large
    rw [if_neg (by omega)]
    rfl

theorem toNat_of_bytes (a b : Byte) : (BitVec.ofNat 16 (a.toNat * 256 + b.toNat)).toNat = a.toNat * 256 + b.toNat := by
  have high := a.isLt
  have low := b.isLt
  rw [BitVec.toNat_ofNat]
  omega

theorem bytes2_of_bytes (a b : Byte) : bytes2 (a.toNat * 256 + b.toNat) = [a, b] := by
  have high := a.isLt
  have low := b.isLt
  have first : BitVec.ofNat 8 ((a.toNat * 256 + b.toNat) / 256) = a := BitVec.eq_of_toNat_eq (by rw [BitVec.toNat_ofNat]; omega)
  have second : BitVec.ofNat 8 (a.toNat * 256 + b.toNat) = b := BitVec.eq_of_toNat_eq (by rw [BitVec.toNat_ofNat]; omega)
  rw [bytes2, first, second]

theorem ofNat_eq_byte {n : Nat} (small : n < 256) (b : Byte) : BitVec.ofNat 8 n = b ↔ n = b.toNat := by
  constructor
  · rintro rfl
    rw [BitVec.toNat_ofNat]
    omega
  · rintro rfl
    exact BitVec.eq_of_toNat_eq (by rw [BitVec.toNat_ofNat]; omega)

/-- A list of nine bytes by its places. -/
theorem eq_nine_of_length {p : List Byte} (length : p.length = 9) :
    ∃ b0 b1 b2 b3 b4 b5 b6 b7 b8, p = [b0, b1, b2, b3, b4, b5, b6, b7, b8] := by
  match p, length with
  | [b0, b1, b2, b3, b4, b5, b6, b7, b8], _ => exact ⟨b0, b1, b2, b3, b4, b5, b6, b7, b8, rfl⟩

/-- Settles O17: each field by its own operation, and the mark by the bytes that may differ. -/
theorem normalisedToteIsInRange : Obligations.NormalisedToteIsInRange := by
  intro source p length t byteAt
  have count : t.count = if byteAt 7 < 1 then 1 else if 8 < byteAt 7 then 8 else byteAt 7 := clamp_eq_ite (by decide) _
  have seq : t.seq = min (if byteAt 6 < 1 then 1 else if 8 < byteAt 6 then 8 else byteAt 6) t.count :=
    congrArg (min · t.count) (clamp_eq_ite (by decide) _)
  have refusals : t.refusals = if 15 < byteAt 8 then 15 else byteAt 8 := by
    show min (byteAt 8) 15 = _
    split <;> omega
  have cls : t.cls.val = if byteAt 5 ≤ 3 then byteAt 5 else 0 := classOfByte_val _
  have ranges : ToteInRange t := by
    have countRange : 1 ≤ t.count ∧ t.count ≤ 8 := by
      rw [count]
      split
      · omega
      · split <;> omega
    have seqLow : 1 ≤ if byteAt 6 < 1 then 1 else if 8 < byteAt 6 then 8 else byteAt 6 := by
      split
      · omega
      · split <;> omega
    refine ⟨by rw [seq]; omega, by rw [seq]; exact Nat.min_le_right _ _, countRange.2, ?_⟩
    rw [refusals]
    split <;> omega
  refine ⟨toNat_of_bytes _ _, toNat_of_bytes _ _, destOfByte_val _, cls, count, seq, refusals, rfl, ranges, ?_⟩
  obtain ⟨b0, b1, b2, b3, b4, b5, b6, b7, b8, rfl⟩ := eq_nine_of_length length
  obtain ⟨-, seqLe, countLe, refusalsLe⟩ := ranges
  have payload : totePayload t t.refusals =
      [b0, b1, b2, b3, destByte t.dest, BitVec.ofNat 8 t.cls.val, BitVec.ofNat 8 t.seq, BitVec.ofNat 8 t.count,
        BitVec.ofNat 8 t.refusals] := by
    have tag : bytes2 t.tag.toNat = [b0, b1] := by
      rw [show t.tag.toNat = b0.toNat * 256 + b1.toNat from toNat_of_bytes b0 b1, bytes2_of_bytes]
    have order : bytes2 t.order.toNat = [b2, b3] := by
      rw [show t.order.toNat = b2.toNat * 256 + b3.toNat from toNat_of_bytes b2 b3, bytes2_of_bytes]
    rw [totePayload, tag, order]
    rfl
  have mark : t.adjusted = (destByte t.dest != b4 || t.cls.val != b5.toNat || t.seq != b6.toNat || t.count != b7.toNat
      || t.refusals != b8.toNat) := rfl
  have clsLt := t.cls.isLt
  rw [payload, mark]
  simp only [ne_eq, List.cons.injEq, true_and, and_true, ofNat_eq_byte (show t.cls.val < 256 by omega),
    ofNat_eq_byte (show t.seq < 256 by omega), ofNat_eq_byte (show t.count < 256 by omega),
    ofNat_eq_byte (show t.refusals < 256 by omega), Bool.or_eq_true, bne_iff_ne, not_and_or, or_assoc]

/-! ### Runs of missed records -/

/-- The notes of a run, each by its place (R36, R37). -/
theorem missedNotes_eq (now : Pos) (n : Nat) (rs : List TrackRecord) :
    missedNotes now n rs =
      rs.mapIdx fun i r => ⟨r.tote.tag, r.tote.order, r.tote.source.toNat, BitVec.ofNat 16 (n + i), now⟩ := by
  induction rs generalizing n with
  | nil => rfl
  | cons r rs ih =>
    rw [missedNotes, ih, List.mapIdx_cons]
    have places : ∀ i, n + 1 + i = n + (i + 1) := by omega
    simp only [places, Nat.add_zero]
    rfl

theorem headDeadlineOf_eq (q : List TrackRecord) : headDeadlineOf q = q.head?.map fun n => n.windowEnd + 1 := by
  cases q <;> rfl

theorem outlived_iff (now : Pos) (r : TrackRecord) : outlived now r = true ↔ signedDist now (r.windowEnd + 1) ≤ 0 :=
  decide_eq_true_iff

/-- A run ends at the first record that has not outlived its window (R37). -/
theorem run_split {now : Pos} {run left : List TrackRecord} (gone : ∀ n ∈ run, signedDist now (n.windowEnd + 1) ≤ 0)
    (stays : ∀ n ∈ left.head?, 0 < signedDist now (n.windowEnd + 1)) :
    (run ++ left).takeWhile (outlived now) = run ∧ (run ++ left).dropWhile (outlived now) = left := by
  have all : ∀ n ∈ run, outlived now n = true := fun n among => (outlived_iff now n).mpr (gone n among)
  have first : left.takeWhile (outlived now) = [] ∧ left.dropWhile (outlived now) = left := by
    cases left with
    | nil => exact ⟨rfl, rfl⟩
    | cons n rest =>
      have later : ¬ outlived now n = true := fun h => Int.not_le.mpr (stays n rfl) ((outlived_iff now n).mp h)
      exact ⟨List.takeWhile_cons_of_neg later, List.dropWhile_cons_of_neg later⟩
  rw [List.takeWhile_append_of_pos all, List.dropWhile_append_of_pos all, first.1, first.2, List.append_nil]
  exact ⟨rfl, rfl⟩

/-- The removal of a head with its run (R35, R37). -/
theorem settleHead_eq {s : State} (missed : List TrackRecord) {run left : List TrackRecord}
    (gone : ∀ n ∈ run, signedDist s.belt.pos (n.windowEnd + 1) ≤ 0)
    (stays : ∀ n ∈ left.head?, 0 < signedDist s.belt.pos (n.windowEnd + 1)) :
    settleHead missed (run ++ left) s = raiseAll .missedTote
      ((missed ++ run).mapIdx fun i n =>
        ⟨n.tote.tag, n.tote.order, n.tote.source.toNat, BitVec.ofNat 16 (i + 1), s.belt.pos⟩)
      { s with tracking := { s.tracking with queue := left, headDeadline := left.head?.map fun n => n.windowEnd + 1 } } := by
  obtain ⟨taken, kept⟩ := run_split gone stays
  simp only [settleHead, taken, kept, missedNotes_eq, headDeadlineOf_eq, Nat.add_comm 1]

theorem expireHead_of_cons {s : State} {r : TrackRecord} {rest : List TrackRecord} (waits : s.tracking.queue = r :: rest) :
    expireHead s = settleHead [r] rest s := by
  simp only [expireHead, waits]

/-- Settles O18: the head and its run leave, or nothing is due. -/
theorem headExpiryRemovesARun : Obligations.HeadExpiryRemovesARun := by
  refine ⟨fun s r run left high deadline waits gone stays => ?_, fun s away => ?_⟩
  · have due : headDue s = true := reaches_self high deadline
    show Host.Outcome.next (takeHead s) = _
    rw [takeHead, if_pos due, expireHead_of_cons waits, settleHead_eq [r] gone stays]
    rfl
  · exact congrArg Host.Outcome.next (takeHead_of_not_due (reaches_of_ne away))

/-! ### Lists that P empties -/

theorem reservationDue_eq {s : State} (high : s.resetLow = false) :
    reservationDue s = s.admission.table.any fun r => r.expiry == s.belt.pos := by
  simp [reservationDue, reaches, high]

theorem entryDue_eq {s : State} (high : s.resetLow = false) :
    entryDue s = s.lane.inbound.any fun r => r.deadline == s.belt.pos := by
  simp [entryDue, reaches, high]

theorem filter_of_not_any {α : Type} {p : α → Bool} {l : List α} (none : l.any p = false) :
    l.filter p = [] ∧ l.filter (fun a => !p a) = l := by
  have no : ∀ a ∈ l, p a = false := by simpa using none
  exact ⟨List.filter_eq_nil_iff.mpr fun a among => by simp [no a among], List.filter_eq_self.mpr fun a among => by simp [no a among]⟩

/-- Settles O25: each list by whether P has reached one of its positions. -/
theorem expiriesLeaveTheirLists : Obligations.ExpiriesLeaveTheirLists := by
  intro s high
  refine ⟨?_, fun ⟨r, among, reached⟩ => ?_, fun away => ?_⟩
  · show Host.Outcome.next (takeReservations s) = _
    by_cases due : reservationDue s = true
    · rw [takeReservations, if_pos due]
      rfl
    · have none := Bool.eq_false_iff.mpr due
      obtain ⟨gone, left⟩ := filter_of_not_any ((reservationDue_eq high).symm.trans none)
      rw [takeReservations_of_not_due none, gone, show (s.admission.table.filter fun r => r.expiry != s.belt.pos) = _ from left]
      rfl
  · have due : entryDue s = true := by
      rw [entryDue_eq high, List.any_eq_true]
      exact ⟨r, among, beq_iff_eq.mpr reached⟩
    show Host.Outcome.next (takeEntries s) = _
    rw [takeEntries, if_pos due]
    rfl
  · refine congrArg Host.Outcome.next (takeEntries_of_not_due ?_)
    rw [entryDue_eq high, Bool.eq_false_iff, ne_eq, List.any_eq_true]
    rintro ⟨r, among, reached⟩
    exact away r among (beq_iff_eq.mp reached)

end Sys2Proof.Machine
end

section
/-! SUPPORT. The button, and the Line Port's frames, arbiter and link, one command each (sections 8.3, 9.2 to 9.5). -/

namespace Sys2Proof.Machine

/-! ### The button -/

/-- What the Counter Interface makes of a level of REL_BTN (R136). -/
def buttonAfter (level : Bool) (c : Counter) : Counter :=
  match c.button, level with
  | .armed, false => { c with button := .timing, buttonTimer := some 0 }
  | .timing, true => { c with button := .armed, buttonTimer := none }
  | .spent, true => { c with button := .armed }
  | .armed, true | .timing, false | .spent, false => c

theorem buttonTakes_of_high {s : State} (high : s.resetLow = false) (level : Bool) :
    buttonTakes level s = { s with pins := { s.pins with relBtn := level }, counter := buttonAfter level s.counter } := by
  unfold buttonTakes buttonAfter
  rw [high]
  cases s.counter.button <;> cases level <;> rfl

/-- Settles O38, one state of the button after the other. -/
theorem buttonIsDebounced : Obligations.ButtonIsDebounced := by
  intro s calm after
  have changes : ∀ level, exec (.buttonChange level) s = after level (buttonAfter level s.counter) := fun level => by
    show Host.Outcome.next (buttonTakes level (settle s)) = _
    rw [settle_of_calm calm, buttonTakes_of_high calm.1]
  refine ⟨fun button => ?_, fun button => ?_, fun button => ?_, ?_⟩
  · simp only [changes, buttonAfter, button, and_self]
  · simp only [changes, buttonAfter, button, and_self]
  · simp only [changes, buttonAfter, button, and_self]
  · show Host.Outcome.next (waitLampOut (settle s)) = _
    rw [settle_of_calm calm, waitLampOut, calm.1]
    rfl

/-! ### Frames that go on -/

/-- A frame to go on joins the forward queue, or is discarded with LINE_OVERRUN (R151). -/
theorem forwardFrame_eq (f : Frame) (s : State) :
    forwardFrame f s =
      if s.line.forward.length < 4 then
        { s with line := if s.line.sending.isNone then pick { s.line with forward := s.line.forward ++ [f] }
          else { s.line with forward := s.line.forward ++ [f] } }
      else raise .lineOverrun ⟨0, 0, 0, BitVec.ofNat 16 (kindByte f.kind).toNat, s.belt.pos⟩ s := by
  unfold forwardFrame
  by_cases room : s.line.forward.length < 4
  · rw [if_pos room, if_neg (by rw [forwardFull_iff]; omega)]
    rfl
  · rw [if_neg room, if_pos ((forwardFull_iff _).mpr (by omega))]
    rfl

theorem frameArrives_number {f : LineFrame} (short : f.payload.length ≤ 32) (s : State) :
    frameArrives (ofKind .number f) s = numberArrives f s := if_neg (Nat.not_lt.mpr short)

theorem frameArrives_ask {f : LineFrame} (short : f.payload.length ≤ 32) (s : State) :
    frameArrives (ofKind .ask f) s = askArrives f s := if_neg (Nat.not_lt.mpr short)

theorem frameArrives_answer {f : Frame} (short : f.payload.length ≤ 32) (kind : f.kind = .answer) (s : State) :
    frameArrives f s = forwardFrame f s := by
  rw [frameArrives]
  refine (if_neg (Nat.not_lt.mpr short)).trans ?_
  rw [kind]

theorem frameArrives_note {f : Frame} (short : f.payload.length ≤ 32) (kind : f.kind = .note) (s : State) :
    frameArrives f s = forwardFrame f s := by
  rw [frameArrives]
  refine (if_neg (Nat.not_lt.mpr short)).trans ?_
  rw [kind]

theorem addressed_iff (target : Byte) (s : State) : addressed target s = true ↔ Mine target s := by
  simp [addressed, Mine]

/-- An ask for another node goes on as it is (R148). -/
theorem askArrives_foreign {f : LineFrame} {s : State} (single : f.target ≠ 63) (other : ¬ Mine f.target s) :
    askArrives f s = forwardFrame (ofKind .ask f) s := by
  rw [askArrives, if_neg single, if_neg fun h => other ((addressed_iff _ _).mp h)]

/-- A NUMBER value of 1 to 63 sets the ring position, and the next value goes on (R149). -/
theorem numberArrives_of_value {f : LineFrame} {v : Byte} (payload : f.payload = [v]) (low : 1 ≤ v.toNat) (high : v.toNat ≤ 63)
    (s : State) :
    numberArrives f s = forwardFrame (numberOut v.toNat { s with line := { s.line with position := positionOf v.toNat } })
      { s with line := { s.line with position := positionOf v.toNat } } := by
  have value : field1 f.payload 0 = v.toNat := by rw [payload]; rfl
  rw [numberArrives, value]
  exact if_pos ⟨by rw [payload]; rfl, low, high⟩

theorem numberArrives_bad {f : LineFrame} (bad : ∀ v : Byte, f.payload = [v] → v.toNat = 0 ∨ 63 < v.toNat) (s : State) :
    numberArrives f s = badFrame s := by
  refine if_neg ?_
  rintro ⟨length, low, high⟩
  obtain ⟨v, payload⟩ := List.length_eq_one_iff.mp length
  have value : field1 f.payload 0 = v.toNat := by rw [payload]; rfl
  have := bad v payload
  omega

/-- The ring position and the frame of a NUMBER value, 63 making the node unnumbered (R149). -/
theorem numberOut_eq {v : Byte} (high : v.toNat ≤ 63) (s : State) :
    let position : Nat := if v.toNat = 63 then 0 else v.toNat
    positionOf v.toNat = Fin.ofNat 63 position ∧
      numberOut v.toNat { s with line := { s.line with position := Fin.ofNat 63 position } } =
        ⟨.number, 0, BitVec.ofNat 8 position, 0, [if v.toNat = 63 then 63 else v + 1]⟩ := by
  intro position
  have named : position = if v.toNat = 63 then 0 else v.toNat := rfl
  by_cases last : v.toNat = 63
  · rw [if_pos last] at named
    rw [named, last]
    exact ⟨rfl, rfl⟩
  · rw [if_neg last] at named
    have next : BitVec.ofNat 8 (min 63 (v.toNat + 1)) = v + 1 := by
      refine BitVec.eq_of_toNat_eq ?_
      rw [BitVec.toNat_ofNat, BitVec.toNat_add, show (1 : Byte).toNat = 1 from rfl]
      omega
    have own : (Fin.ofNat 63 v.toNat : Fin 63).val = v.toNat := Nat.mod_eq_of_lt (by omega)
    rw [named, if_neg last]
    refine ⟨rfl, ?_⟩
    simp only [numberOut, positionByte, own, bytes1, next]

theorem receivedRaw_bad {s : State} (takes : takesFrames s = true) {raw : RawFrame} (starts : false ∈ raw.levels)
    (fails : receiveCheck (gather raw) = none) : receivedRaw raw s = badFrame s := by
  have start : hasStart raw = true := List.contains_iff_mem.mpr starts
  simp only [receivedRaw, takes, start, fails, Bool.and_self, if_true]

/-- Settles O41, one kind of frame after the other. -/
theorem framesAreForwarded : Obligations.FramesAreForwarded := by
  intro s listening joined
  have join : ∀ f t, forwardFrame f t = joined f (kindByte f.kind).toNat t := forwardFrame_eq
  have takes : ∀ f, received f (settle s) = frameArrives f s := received_of_listening listening
  refine ⟨fun f v payload low high => ?_, fun f bad => ?_, fun f short => ⟨fun kind => ?_, fun kind => ?_, fun kind single other => ?_⟩,
    fun raw starts fails => ?_, fun raw none => ?_⟩
  · intro position next
    obtain ⟨set, out⟩ := numberOut_eq high s
    show Host.Outcome.next (received (ofKind .number f) (settle s)) = _
    rw [takes, frameArrives_number (by rw [payload]; exact Nat.le_of_ble_eq_true rfl), numberArrives_of_value payload low high, set, out, join]
    rfl
  · show Host.Outcome.next (received (ofKind .number f) (settle s)) = Host.Outcome.next (badFrame s)
    rw [takes]
    by_cases short : f.payload.length ≤ 32
    · rw [frameArrives_number short, numberArrives_bad bad]
    · exact congrArg Host.Outcome.next (if_pos (Nat.lt_of_not_le short))
  · show Host.Outcome.next (received f (settle s)) = _
    rw [takes, frameArrives_answer short kind, join, kind]
    rfl
  · show Host.Outcome.next (received f (settle s)) = _
    rw [takes, frameArrives_note short kind, join, kind]
    rfl
  · obtain ⟨_, target, source, tag, payload⟩ := f
    obtain rfl : _ = FrameKind.ask := kind
    show Host.Outcome.next (received (ofKind .ask ⟨target, source, tag, payload⟩) (settle s)) = _
    rw [takes, frameArrives_ask short, askArrives_foreign single other, join]
    rfl
  · show Host.Outcome.next (receivedRaw raw (settle s)) = Host.Outcome.next (badFrame s)
    rw [settle_of_calm listening.1, receivedRaw_bad (takesFrames_of_listening listening) starts fails]
  · have silent : hasStart raw = false := Bool.eq_false_iff.mpr fun h => none (List.contains_iff_mem.mp h)
    show Host.Outcome.next (receivedRaw raw (settle s)) = _
    rw [settle_of_calm listening.1, receivedRaw, silent, Bool.and_false]
    rfl

/-! ### The arbiter -/

theorem pick_handOff {l : LinePort} {f : Frame} {rest : List Frame} (waits : l.handOff = f :: rest) :
    pick l = { l with handOff := rest, sending := some f } := by
  simp only [pick, waits]

theorem pick_forward {l : LinePort} {f : Frame} {rest : List Frame} (none : l.handOff = []) (waits : l.forward = f :: rest)
    (alone : l.localQueue = []) : pick l = { l with forward := rest, sending := some f } := by
  simp only [pick, none, waits, alone]

theorem pick_credit {l : LinePort} {f : Frame} {rest : List Frame} (none : l.handOff = []) (waits : l.forward = f :: rest)
    (local_ : l.localQueue ≠ []) (credit : l.credit < 3) :
    pick l = { l with forward := rest, sending := some f, credit := l.credit + 1 } := by
  obtain ⟨g, others, queued⟩ := List.exists_cons_of_ne_nil local_
  simp only [pick, none, waits, queued]
  exact if_pos credit

theorem pick_local {l : LinePort} {g : Frame} {rest : List Frame} (none : l.handOff = []) (turn : l.forward = [] ∨ 3 ≤ l.credit)
    (waits : l.localQueue = g :: rest) : pick l = { l with localQueue := rest, sending := some g, credit := 0 } := by
  cases forward : l.forward with
  | nil => simp only [pick, none, forward, waits]
  | cons f others =>
    have spent : ¬ l.credit < 3 := Nat.not_lt.mpr (turn.resolve_left (by simp [forward]))
    simp only [pick, none, forward, waits]
    exact if_neg spent

theorem pick_idle {l : LinePort} (none : l.handOff = []) (noForward : l.forward = []) (noLocal : l.localQueue = []) : pick l = l := by
  simp only [pick, none, noForward, noLocal]

/-- The oldest local frame waits for at most as many forwarded ones as the credit still allows (R155). -/
theorem pick_reaches_local (left : Nat) {l : LinePort} {g : Frame} {rest : List Frame} (none : l.handOff = [])
    (waits : l.localQueue = g :: rest) (credit : 3 ≤ l.credit + left) :
    ∃ n, n ≤ left ∧ (pick^[n + 1] l).sending = some g ∧ (pick^[n + 1] l).localQueue = rest := by
  have now : l.forward = [] ∨ 3 ≤ l.credit →
      ∃ n, n ≤ left ∧ (pick^[n + 1] l).sending = some g ∧ (pick^[n + 1] l).localQueue = rest := fun turn => by
    refine ⟨0, Nat.zero_le _, ?_⟩
    rw [Function.iterate_succ_apply, pick_local none turn waits]
    exact ⟨rfl, rfl⟩
  induction left generalizing l with
  | zero => exact now (.inr credit)
  | succ left ih =>
    by_cases turn : l.forward = [] ∨ 3 ≤ l.credit
    · exact now turn
    · obtain ⟨some_, room⟩ := not_or.mp turn
      obtain ⟨f, others, forward⟩ := List.exists_cons_of_ne_nil some_
      have picked := pick_credit none forward (by simp [waits]) (Nat.lt_of_not_le room)
      have after : ∀ m, pick l = m → (m.handOff = [] ∧ m.localQueue = g :: rest ∧ 3 ≤ m.credit + left) := by
        rintro m rfl
        rw [picked]
        exact ⟨none, waits, by show 3 ≤ l.credit + 1 + left; omega⟩
      obtain ⟨none', waits', credit'⟩ := after _ rfl
      obtain ⟨n, few, sends⟩ := ih none' waits' credit' fun turn' => by
        refine ⟨0, Nat.zero_le _, ?_⟩
        rw [Function.iterate_succ_apply, pick_local none' turn' waits']
        exact ⟨rfl, rfl⟩
      refine ⟨n + 1, by omega, ?_⟩
      rw [Function.iterate_succ_apply]
      exact sends

/-- Settles O42: the arbiter's ranks, and the bound by the credit left. -/
theorem arbiterChoosesByRank : Obligations.ArbiterChoosesByRank := by
  refine ⟨fun s calm => ?_, fun l g rest none waits => pick_reaches_local 3 none waits (Nat.le_add_left 3 _)⟩
  intro l sends
  have free : ∀ m, pick { l with sending := none } = m → sends m := fun m picked => by
    show Host.Outcome.next (transmitterIdle (settle s)) = _
    rw [settle_of_calm calm, transmitterIdle, calm.1, if_neg Bool.false_ne_true, ← picked]
    rfl
  exact ⟨fun f rest waits => free _ (pick_handOff (l := { l with sending := none }) waits),
    fun f rest none waits alone => free _ (pick_forward (l := { l with sending := Option.none }) none waits alone),
    fun f rest none waits local_ credit => free _ (pick_credit (l := { l with sending := Option.none }) none waits local_ credit),
    fun g rest none turn waits => free _ (pick_local (l := { l with sending := Option.none }) none turn waits),
    fun none noForward noLocal => free _ (pick_idle (l := { l with sending := Option.none }) none noForward noLocal)⟩

/-! ### The link -/

/-- LOS at the level of the present link state changes its pin alone. -/
theorem exec_losChange_same {s : State} (calm : Calm s) {level : Bool} (same : linkOfLos level = s.line.link) (partly : Bool) :
    exec (.losChange level partly) s = .next { s with pins := { s.pins with los := level } } := by
  show Host.Outcome.next (losTakes level partly (settle s)) = _
  rw [settle_of_calm calm, losTakes, if_pos (by simp [same])]

/-- LOS at the other level: a frame partly received at a loss is counted, the link follows with LINK_CHANGE, and the receiver waits (R145). -/
theorem exec_losChange_other {s : State} (calm : Calm s) {level : Bool} (other : linkOfLos level ≠ s.line.link) (partly : Bool) {errors : Nat}
    (counted : (if level && partly && takesFrames s then countError s.line else s.line) = { s.line with errors := errors }) :
    exec (.losChange level partly) s = .next (raise .linkChange ⟨0, 0, (linkOfLos level).code, BitVec.ofNat 16 errors, s.belt.pos⟩
      { s with
        pins := { s.pins with los := level }
        line := { s.line with link := linkOfLos level, errors := errors, receiverReady := false } }) := by
  show Host.Outcome.next (losTakes level partly (settle s)) = _
  have moves : ¬ (s.resetLow || linkOfLos level == s.line.link) = true := by simp [calm.1, other]
  rw [settle_of_calm calm, losTakes, if_neg moves, counted]
  exact congrArg Host.Outcome.next (if_neg other)

/-- Settles O43: the link by the state it is in and the level that comes. -/
theorem linkFollowsLos : Obligations.LinkFollowsLos := by
  intro s calm pin
  have idle : exec .receiverIdleWaitEnd s = .next (idleSeen s) := by
    show Host.Outcome.next (idleSeen (settle s)) = _
    rw [settle_of_calm calm]
  refine ⟨fun partly up => ⟨?_, exec_losChange_same (level := false) calm up.symm partly, ?_⟩, fun partly down => ⟨?_, exec_losChange_same (level := true) calm down.symm partly, ?_⟩⟩
  · have takes : takesFrames s = s.line.receiverReady := by simp [takesFrames, calm.1, up]
    refine exec_losChange_other calm (by rw [up]; decide) partly ?_
    rw [takes]
    cases partly <;> cases s.line.receiverReady <;> rfl
  · rw [idle, idleSeen, if_pos (by simp [calm.1, up])]
  · exact exec_losChange_other calm (by rw [down]; decide) partly rfl
  · rw [idle, idleSeen, if_neg (by simp [down])]

end Sys2Proof.Machine
end

section
/-! SUPPORT. The frame on the line: levels and gathered bytes, the check bit by bit, and the receive checks (sections 9.2, 9.3 and 9.6). -/

namespace Sys2Proof.Machine

/-! ### Levels and bytes -/

/-- A receiver between two bytes of a frame with these bytes so far. -/
def betweenBytes (bs : List Byte) : Receiver := ⟨⟨bs, false⟩, none, 0, decide (41 ≤ bs.length), false⟩

theorem takeLevels_bytes (bs : List Byte) (before : List Byte) (room : before.length + bs.length ≤ 41) :
    (bs.flatMap byteLevels).foldl takeLevel (betweenBytes before) = betweenBytes (before ++ bs) := by
  induction bs generalizing before with
  | nil => simp
  | cons b bs ih =>
    have length : before.length + (bs.length + 1) ≤ 41 := room
    have more : (betweenBytes before).spoiled = false := decide_eq_false (by omega)
    have taken : (byteLevels b).foldl takeLevel (betweenBytes before) = betweenBytes (before ++ [b]) := by
      rw [takeLevels_byte rfl more rfl b]
      simp [betweenBytes, Config.spoiledLength]
    rw [List.flatMap_cons, List.foldl_append, taken,
      ih (before ++ [b]) (by rw [List.length_append, List.length_singleton]; omega), List.append_assoc, List.singleton_append]

/-- Idle levels, with no byte under way, gather nothing. -/
theorem takeLevels_idle (n : Nat) {r : Receiver} (data : r.data = none) :
    ((List.replicate n true).foldl takeLevel r).got = r.got := by
  induction n generalizing r with
  | zero => rfl
  | succ n ih =>
    rw [List.replicate_succ, List.foldl_cons]
    by_cases ended : r.ended = true
    · rw [takeLevel_of_ended ended, ih data]
    by_cases spoiled : r.spoiled = true
    · rw [← List.foldl_cons, takeLevels_of_spoiled spoiled]
    have idle : takeLevel r true = idleBit true r := by simp [takeLevel, ended, spoiled, data]
    rw [idle, ih (r := idleBit true r) data]
    rfl

theorem byteLevels_cons (b : Byte) : ∃ rest, byteLevels b = false :: rest := ⟨_, rfl⟩

/-- The levels of bytes start with a start bit. -/
theorem dropWhile_lineLevels (bs : List Byte) (rest : List Bool) (start : bs = [] → rest.dropWhile (fun level => level) = rest) :
    (bs.flatMap byteLevels ++ rest).dropWhile (fun level => level) = bs.flatMap byteLevels ++ rest := by
  cases bs with
  | nil => exact start rfl
  | cons b bs =>
    obtain ⟨levels, first⟩ := byteLevels_cons b
    rw [List.flatMap_cons, first]
    rfl

theorem gather_eq (bs : List Byte) (rest : List Bool) (few : bs.length ≤ 41)
    (start : bs = [] → rest.dropWhile (fun level => level) = rest) :
    gather ⟨bs.flatMap byteLevels ++ rest⟩ =
      ((rest ++ List.replicate 25 true).foldl takeLevel (betweenBytes bs)).got := by
  have bytes := takeLevels_bytes bs [] (by rw [List.length_nil]; omega)
  rw [gather, dropWhile_lineLevels bs rest start, List.append_assoc, List.foldl_append,
    show freshReceiver = betweenBytes [] from rfl, bytes]
  rfl

theorem gather_bytes {bs : List Byte} (few : bs.length ≤ 41) : gather ⟨bs.flatMap byteLevels⟩ = ⟨bs, false⟩ := by
  have gathered := gather_eq bs [] few fun _ => rfl
  rw [List.append_nil, List.nil_append] at gathered
  rw [gathered, takeLevels_idle 25 rfl]
  rfl

/-- Data bits join the byte under way. -/
theorem takeLevels_data (data before : List Bool) {r : Receiver} (under : r.data = some before) (spoiled : r.spoiled = false)
    (ended : r.ended = false) (room : before.length + data.length ≤ 8) :
    data.foldl takeLevel r = { r with data := some (before ++ data) } := by
  induction data generalizing r before with
  | nil => rw [List.append_nil, ← under]; rfl
  | cons bit data ih =>
    have length : before.length + (data.length + 1) ≤ 8 := room
    have first : takeLevel r bit = { r with data := some (before ++ [bit]) } := by
      simp only [takeLevel, ended, spoiled, under, Bool.false_eq_true, if_false]
      exact if_pos (by omega)
    rw [List.foldl_cons, first, ih (r := { r with data := some (before ++ [bit]) }) (before ++ [bit]) rfl spoiled ended
      (by rw [List.length_append, List.length_singleton]; omega), List.append_assoc, List.singleton_append]

/-- A low stop bit is a framing error, after which nothing more is taken (R146). -/
theorem gather_framingError {bs : List Byte} {data : List Bool} (few : bs.length ≤ 40) (eight : data.length = 8) (rest : List Bool) :
    gather ⟨bs.flatMap byteLevels ++ false :: data ++ false :: rest⟩ = ⟨bs, true⟩ := by
  have open_ : decide (41 ≤ bs.length) = false := decide_eq_false (by omega)
  have begun : takeLevel (betweenBytes bs) false = { betweenBytes bs with data := some [] } := by
    simp [takeLevel, betweenBytes, open_]
  have filled := takeLevels_data data [] (r := { betweenBytes bs with data := some [] }) rfl open_ rfl (by rw [eight]; rfl)
  have stopped : takeLevel { betweenBytes bs with data := some ([] ++ data) } false =
      stopBit false data { betweenBytes bs with data := some ([] ++ data) } := by
    simp [takeLevel, betweenBytes, open_, eight]
  rw [List.append_assoc, List.cons_append, gather_eq bs _ (by omega) fun _ => rfl, List.cons_append, List.append_assoc,
    List.foldl_cons, begun, List.foldl_append, filled, List.cons_append, List.foldl_cons, stopped, stopBit_low,
    takeLevels_of_spoiled rfl]
  rfl

/-- No byte is taken after the 41st (R146). -/
theorem gather_spoiled {bs : List Byte} (full : bs.length = 41) (more : List Byte) :
    gather ⟨(bs ++ more).flatMap byteLevels⟩ = ⟨bs, false⟩ := by
  have some_ : bs ≠ [] := by rintro rfl; exact absurd full (by decide)
  rw [List.flatMap_append, gather_eq bs _ full.le fun none => absurd none some_,
    takeLevels_of_spoiled (decide_eq_true full.ge)]
  rfl

/-! ### The check -/

theorem crcBit_getLsbD (reg : BitVec 16) (data : Bool) {i : Nat} (place : i < 16) :
    (crcBit reg data).getLsbD i =
      ((decide (0 < i) && reg.getLsbD (i - 1)) ^^ ((reg.getLsbD 15 ^^ data) && (0x1021#16).getLsbD i)) := by
  have shifted : (reg <<< 1).getLsbD i = (decide (0 < i) && reg.getLsbD (i - 1)) := by
    rw [BitVec.getLsbD_shiftLeft, decide_eq_true place, Bool.true_and]
    cases i <;> simp
  have out : reg.msb = reg.getLsbD 15 := BitVec.msb_eq_getLsbD_last reg
  unfold crcBit
  rw [out]
  cases reg.getLsbD 15 <;> cases data <;> simp [shifted]

theorem checkBytes_eq (c : BitVec 16) : checkBytes c = [c.extractLsb' 8 8, c.extractLsb' 0 8] := by
  have high : BitVec.ofNat 8 (c.toNat / 256) = c.extractLsb' 8 8 := BitVec.eq_of_toNat_eq (by
    rw [BitVec.toNat_ofNat, BitVec.extractLsb'_toNat, Nat.shiftRight_eq_div_pow])
  have low : BitVec.ofNat 8 c.toNat = c.extractLsb' 0 8 := BitVec.eq_of_toNat_eq (by
    rw [BitVec.toNat_ofNat, BitVec.extractLsb'_toNat, Nat.shiftRight_zero])
  rw [checkBytes, bytes2, high, low]

/-! ### The receive checks -/

theorem kindOfByte_eq_some_iff (b : Byte) (k : FrameKind) : kindOfByte b = some k ↔ b = kindByte k := by
  constructor
  · intro named
    unfold kindOfByte at named
    split at named
    · obtain rfl := Option.some.inj named
      assumption
    split at named
    · obtain rfl := Option.some.inj named
      assumption
    split at named
    · obtain rfl := Option.some.inj named
      assumption
    split at named
    · obtain rfl := Option.some.inj named
      assumption
    split at named
    · obtain rfl := Option.some.inj named
      assumption
    · cases named
  · rintro rfl
    cases k <;> rfl

/-- The receive checks of bytes that are long enough for a header, a payload of the length it names, and a check (R147). -/
theorem receiveCheck_of_header (sync kind target source tag len : Byte) (payload check : List Byte) (error : Bool)
    (length : payload.length = len.toNat) (two : check.length = 2) :
    receiveCheck ⟨sync :: kind :: target :: source :: tag :: len :: (payload ++ check), error⟩ =
      if error = false ∧ sync = 0xA5 ∧ payload.length ≤ 32 ∧
          check = checkBytes (crc (kind :: target :: source :: tag :: len :: payload)) then
        (kindOfByte kind).map fun k => ⟨k, target, source, tag, payload⟩
      else none := by
  have total : (sync :: kind :: target :: source :: tag :: len :: (payload ++ check)).length = payload.length + 8 := by
    simp [two]
  have tail : (sync :: kind :: target :: source :: tag :: len :: (payload ++ check)).drop (payload.length + 8 - 2) = check := by
    show (sync :: kind :: target :: source :: tag :: len :: (payload ++ check)).drop (payload.length + 6) = check
    simp
  have covered : ((sync :: kind :: target :: source :: tag :: len :: (payload ++ check)).drop 1).take (payload.length + 8 - 3) =
      kind :: target :: source :: tag :: len :: payload := by
    show (kind :: target :: source :: tag :: len :: (payload ++ check)).take (payload.length + 5) = _
    simp
  have body : ((sync :: kind :: target :: source :: tag :: len :: (payload ++ check)).drop 6).take payload.length = payload := by
    simp
  have first : sync.toNat = 165 ↔ sync = 0xA5 := by
    rw [← BitVec.toNat_inj]
    rfl
  generalize whole : sync :: kind :: target :: source :: tag :: len :: (payload ++ check) = bs at total tail covered body
  have places : field1 bs 0 = sync.toNat ∧ field1 bs 5 = len.toNat ∧ bs.getD 1 0 = kind ∧ bs.getD 2 0 = target ∧
      bs.getD 3 0 = source ∧ bs.getD 4 0 = tag := by
    subst whole
    exact ⟨rfl, rfl, rfl, rfl, rfl, rfl⟩
  obtain ⟨place0, place5, place1, place2, place3, place4⟩ := places
  simp only [receiveCheck, place0, place1, place2, place3, place4, place5, ← length, total, tail, covered, body]
  refine if_congr ?_ rfl rfl
  have small : payload.length + 8 ≤ 40 ↔ payload.length ≤ 32 := by omega
  simp only [Config.syncByte, Config.maxPayload, Bool.and_eq_true, Bool.not_eq_true', decide_eq_true_eq, beq_iff_eq, first, small]
  constructor
  · rintro ⟨⟨⟨⟨⟨⟨noError, -⟩, -⟩, synced⟩, short⟩, -⟩, checked⟩
    exact ⟨noError, synced, of_decide_eq_true short, checked⟩
  · rintro ⟨noError, synced, short, checked⟩
    exact ⟨⟨⟨⟨⟨⟨noError, short⟩, by omega⟩, synced⟩, decide_eq_true short⟩, trivial⟩, checked⟩

/-- A header, a payload of the length it names, and a check: what the receive checks' own lengths come to. -/
theorem header_of_receiveCheck {got : Gathered} {f : Frame} (takes : receiveCheck got = some f) :
    ∃ sync kind target source tag len payload check, payload.length = len.toNat ∧ check.length = 2 ∧
      got.bytes = sync :: kind :: target :: source :: tag :: len :: (payload ++ check) := by
  unfold receiveCheck at takes
  dsimp only at takes
  split at takes
  · rename_i passes
    simp only [Bool.and_eq_true, decide_eq_true_eq, beq_iff_eq] at passes
    obtain ⟨⟨⟨-, long⟩, -⟩, total⟩ : ((True ∧ 8 ≤ got.bytes.length) ∧ True) ∧ field1 got.bytes 5 + 8 = got.bytes.length :=
      ⟨⟨⟨trivial, passes.1.1.1.1.2⟩, trivial⟩, passes.1.2⟩
    match bytes : got.bytes, long with
    | sync :: kind :: target :: source :: tag :: len :: rest, _ =>
      have named : len.toNat + 8 = rest.length + 6 := by
        rw [bytes] at total
        exact total
      refine ⟨sync, kind, target, source, tag, len, rest.take len.toNat, rest.drop len.toNat, ?_, ?_, ?_⟩
      · rw [List.length_take]
        omega
      · rw [List.length_drop]
        omega
      · rw [List.take_append_drop]
  · cases takes

/-- The bytes of a frame, with its length byte written out. -/
theorem frameBytes_eq (f : Frame) :
    frameBytes f = 0xA5 :: kindByte f.kind :: f.target :: f.source :: f.tag :: BitVec.ofNat 8 f.payload.length ::
      (f.payload ++ checkBytes (crc (kindByte f.kind :: f.target :: f.source :: f.tag :: BitVec.ofNat 8 f.payload.length ::
        f.payload))) := rfl

/-- The receive checks take exactly the bytes of a frame (R147). -/
theorem receiveCheck_eq_some_iff (got : Gathered) (f : Frame) :
    receiveCheck got = some f ↔ got.framingError = false ∧ f.payload.length ≤ 32 ∧ got.bytes = frameBytes f := by
  constructor
  · intro takes
    obtain ⟨sync, kind, target, source, tag, len, payload, check, length, two, bytes⟩ := header_of_receiveCheck takes
    obtain ⟨gathered, error⟩ := got
    obtain rfl : gathered = _ := bytes
    rw [receiveCheck_of_header _ _ _ _ _ _ _ _ _ length two] at takes
    split at takes
    · rename_i passes
      obtain ⟨noError, synced, short, checked⟩ := passes
      obtain ⟨k, named, rfl⟩ := Option.map_eq_some_iff.mp takes
      have len_eq : BitVec.ofNat 8 payload.length = len := (ofNat_eq_byte (by omega) len).mpr length
      refine ⟨noError, short, ?_⟩
      rw [frameBytes_eq, ← (kindOfByte_eq_some_iff kind k).mp named, len_eq, ← checked, synced]
    · cases takes
  · rintro ⟨noError, short, bytes⟩
    obtain ⟨gathered, error⟩ := got
    obtain rfl : gathered = _ := bytes
    obtain rfl : error = false := noError
    have length : f.payload.length = (BitVec.ofNat 8 f.payload.length).toNat := by
      rw [BitVec.toNat_ofNat]
      omega
    rw [frameBytes_eq, receiveCheck_of_header _ _ _ _ _ _ _ _ _ length rfl, if_pos ⟨rfl, rfl, short, rfl⟩,
      (kindOfByte_eq_some_iff _ _).mpr rfl]
    rfl

/-- Settles O44: the levels, the check and the receive checks, one after the other. -/
theorem receiveChecksTakeFrames : Obligations.ReceiveChecksTakeFrames := by
  refine ⟨fun b => rfl, fun bs few => gather_bytes few, fun bs data rest few eight => gather_framingError few eight rest,
    fun bs more full => gather_spoiled full more, fun reg data i place => crcBit_getLsbD reg data place, fun reg b => rfl, rfl,
    fun bs b => ?_, fun f => ?_, receiveCheck_eq_some_iff⟩
  · rw [crc, List.foldl_append]
    rfl
  · intro kind body
    have named : kindByte f.kind = kind := by
      cases h : f.kind <;> simp only [kind, h] <;> rfl
    rw [frameBytes_eq, named, checkBytes_eq]
    rfl

end Sys2Proof.Machine
end

section
/-! SUPPORT. The walk of the window: the place of a cell in it, and the cells it takes (section 4.2). -/

namespace Sys2Proof.Machine

/-! ### The place of a cell -/

/-- The destinations of the window. -/
def windowDests (p : RoutePlan) : Nat := p.d1.val - p.d0.val + 1

/-- The classes of the window. -/
def windowClasses (p : RoutePlan) : Nat := p.c1.val - p.c0.val + 1

/-- The cells of the window. -/
def windowSize (p : RoutePlan) : Nat := windowDests p * windowClasses p

/-- The place of a cell of the window in the walk, from 0 (R53). -/
def walkRank (p : RoutePlan) (c : Cell) : Nat :=
  match p.order with
  | .destFirst => (c.cls.val - p.c0.val) * windowDests p + (c.dest.val - p.d0.val)
  | .classFirst => (c.dest.val - p.d0.val) * windowClasses p + (c.cls.val - p.c0.val)

/-- A number is told apart by its two digits. -/
theorem radix_inj {base a a' b b' : Nat} (low : b < base) (low' : b' < base) (same : a * base + b = a' * base + b') :
    a = a' ∧ b = b' := by
  have pos : 0 < base := Nat.zero_lt_of_lt low
  have high : ∀ x y, y < base → (x * base + y) / base = x := fun x y h => by
    rw [Nat.mul_comm, Nat.mul_add_div pos, Nat.div_eq_of_lt h, Nat.add_zero]
  have first : a = a' := by rw [← high a b low, same, high a' b' low']
  subst first
  exact ⟨rfl, by omega⟩

theorem radix_lt {base top a b : Nat} (low : b < base) (high : a < top) : a * base + b < top * base := by
  have step : (a + 1) * base ≤ top * base := Nat.mul_le_mul_right _ high
  rw [Nat.succ_mul] at step
  omega

/-- The two digits of a cell's place are within the window's. -/
theorem digits_of_inWindow {p : RoutePlan} {c : Cell} (inside : InWindow p c) :
    c.dest.val - p.d0.val < windowDests p ∧ c.cls.val - p.c0.val < windowClasses p := by
  obtain ⟨d0, d1, c0, c1⟩ := inside
  have dests : c.dest.val ≤ p.d1.val := d1
  have classes : c.cls.val ≤ p.c1.val := c1
  unfold windowDests windowClasses
  omega

theorem walkRank_lt {p : RoutePlan} {c : Cell} (inside : InWindow p c) : walkRank p c < windowSize p := by
  obtain ⟨dest, cls⟩ := digits_of_inWindow inside
  unfold walkRank windowSize
  cases p.order
  · rw [Nat.mul_comm (windowDests p)]
    exact radix_lt dest cls
  · exact radix_lt cls dest

theorem walkRank_inj {p : RoutePlan} {c d : Cell} (inside : InWindow p c) (inside' : InWindow p d)
    (same : walkRank p c = walkRank p d) : c = d := by
  obtain ⟨dest, cls⟩ := digits_of_inWindow inside
  obtain ⟨dest', cls'⟩ := digits_of_inWindow inside'
  have digits : c.dest.val - p.d0.val = d.dest.val - p.d0.val ∧ c.cls.val - p.c0.val = d.cls.val - p.c0.val := by
    unfold walkRank at same
    cases order : p.order <;> simp only [order] at same
    · exact (radix_inj dest dest' same).symm
    · exact radix_inj cls cls' same
  have d0 : p.d0.val ≤ c.dest.val := inside.1
  have d0' : p.d0.val ≤ d.dest.val := inside'.1
  have c0 : p.c0.val ≤ c.cls.val := inside.2.2.1
  have c0' : p.c0.val ≤ d.cls.val := inside'.2.2.1
  have dests : c.dest = d.dest := Fin.ext (by omega)
  have classes : c.cls = d.cls := Fin.ext (by omega)
  cases c
  cases d
  exact Cell.mk.injEq .. ▸ ⟨dests, classes⟩

/-- Each step of the walk goes one place on (R53). -/
theorem walkRank_next {p : RoutePlan} {c d : Cell} (inside : InWindow p c) (next : nextCell p c = some d) :
    walkRank p d = walkRank p c + 1 := by
  obtain ⟨d0, d1, c0, c1⟩ := inside
  have low : p.d0.val ≤ c.dest.val := d0
  have high : c.dest.val ≤ p.d1.val := d1
  have lowC : p.c0.val ≤ c.cls.val := c0
  have highC : c.cls.val ≤ p.c1.val := c1
  unfold nextCell nextDest nextClass at next
  unfold walkRank windowDests windowClasses
  cases order : p.order <;> simp only [order] at next ⊢
  · by_cases room : c.dest < p.d1
    · simp only [room, dite_true, Option.some.injEq] at next
      subst next
      dsimp only
      omega
    · by_cases more : c.cls < p.c1
      · simp only [room, more, dite_true, dite_false, Option.map_some, Option.some.injEq] at next
        subst next
        have last : c.dest.val = p.d1.val := Nat.le_antisymm high (not_lt.mp room)
        have carry : c.cls.val + 1 - p.c0.val = c.cls.val - p.c0.val + 1 := by omega
        dsimp only
        rw [carry, Nat.succ_mul, last]
        omega
      · simp [room, more] at next
  · by_cases more : c.cls < p.c1
    · simp only [more, dite_true, Option.some.injEq] at next
      subst next
      dsimp only
      omega
    · by_cases room : c.dest < p.d1
      · simp only [room, more, dite_true, dite_false, Option.map_some, Option.some.injEq] at next
        subst next
        have last : c.cls.val = p.c1.val := Nat.le_antisymm highC (not_lt.mp more)
        have carry : c.dest.val + 1 - p.d0.val = c.dest.val - p.d0.val + 1 := by omega
        dsimp only
        rw [carry, Nat.succ_mul, last]
        omega
      · simp [room, more] at next

theorem walkRank_first (p : RoutePlan) : walkRank p ⟨p.d0, p.c0⟩ = 0 := by
  unfold walkRank
  cases p.order <;> simp

theorem walkRank_last (p : RoutePlan) : walkRank p ⟨p.d1, p.c1⟩ + 1 = windowSize p := by
  have split : ∀ a b : Nat, a * (b + 1) + b + 1 = (a + 1) * (b + 1) := fun a b => by rw [Nat.succ_mul, Nat.add_assoc]
  unfold walkRank windowSize windowDests windowClasses
  cases p.order
  · dsimp only
    rw [split, Nat.mul_comm]
  · dsimp only
    rw [split]

/-! ### The cells that the walk takes -/

/-- With enough steps the walk from a cell takes one cell for each place from the cell's own to the window's last, all of the window. -/
theorem walkCells_ranks {p : RoutePlan} (n : Nat) {c : Cell} (inside : InWindow p c) (enough : windowSize p ≤ walkRank p c + n) :
    (walkCells p n c).map (walkRank p) = List.range' (walkRank p c) (windowSize p - walkRank p c) ∧
      ∀ d ∈ walkCells p n c, InWindow p d := by
  have place := walkRank_lt inside
  induction n generalizing c with
  | zero => omega
  | succ n ih =>
    have count : windowSize p - walkRank p c = windowSize p - (walkRank p c + 1) + 1 := by omega
    unfold walkCells
    cases next : nextCell p c with
    | none =>
      have last : walkRank p c + 1 = windowSize p := by
        rw [(nextCell_eq_none inside).mp next]
        exact walkRank_last p
      refine ⟨?_, fun d among => ?_⟩
      · rw [count, last, Nat.sub_self]
        rfl
      · rw [List.mem_singleton.mp among]
        exact inside
    | some d =>
      have inside' := nextCell_inWindow inside next
      have rank := walkRank_next inside next
      obtain ⟨ranks, all⟩ := ih inside' (by omega) (walkRank_lt inside')
      refine ⟨?_, fun e among => ?_⟩
      · rw [List.map_cons, ranks, rank, count, List.range'_succ]
      · rcases List.mem_cons.mp among with rfl | later
        · exact inside
        · exact all e later

theorem windowSize_le (p : RoutePlan) : windowSize p ≤ 256 := by
  have dests : windowDests p ≤ 64 := by
    unfold windowDests
    omega
  have classes : windowClasses p ≤ 4 := by
    unfold windowClasses
    omega
  exact Nat.mul_le_mul dests classes

/-- The window start stands in a window that is not inverted. -/
theorem first_inWindow {p : RoutePlan} (dests : p.d0 ≤ p.d1) (classes : p.c0 ≤ p.c1) : InWindow p ⟨p.d0, p.c0⟩ :=
  ⟨le_rfl, dests, le_rfl, classes⟩

theorem last_inWindow {p : RoutePlan} (dests : p.d0 ≤ p.d1) (classes : p.c0 ≤ p.c1) : InWindow p ⟨p.d1, p.c1⟩ :=
  ⟨dests, le_rfl, classes, le_rfl⟩

/-- The whole walk takes one cell for each place of the window, all of the window (R53). -/
theorem walk_ranks {p : RoutePlan} (dests : p.d0 ≤ p.d1) (classes : p.c0 ≤ p.c1) :
    (walkCells p 256 ⟨p.d0, p.c0⟩).map (walkRank p) = List.range (windowSize p) ∧
      ∀ d ∈ walkCells p 256 ⟨p.d0, p.c0⟩, InWindow p d := by
  have whole := walkCells_ranks 256 (first_inWindow dests classes) (by have := windowSize_le p; omega)
  rwa [walkRank_first, Nat.sub_zero, ← List.range_eq_range'] at whole

theorem walk_length {p : RoutePlan} (dests : p.d0 ≤ p.d1) (classes : p.c0 ≤ p.c1) :
    (walkCells p 256 ⟨p.d0, p.c0⟩).length = windowSize p := by
  rw [← List.length_map (f := walkRank p), (walk_ranks dests classes).1, List.length_range]

theorem walk_nodup {p : RoutePlan} (dests : p.d0 ≤ p.d1) (classes : p.c0 ≤ p.c1) : (walkCells p 256 ⟨p.d0, p.c0⟩).Nodup := by
  refine List.Nodup.of_map (walkRank p) ?_
  rw [(walk_ranks dests classes).1]
  exact List.nodup_range

theorem walk_getLast {p : RoutePlan} (dests : p.d0 ≤ p.d1) (classes : p.c0 ≤ p.c1) :
    (walkCells p 256 ⟨p.d0, p.c0⟩).getLast? = some ⟨p.d1, p.c1⟩ := by
  obtain ⟨ranks, all⟩ := walk_ranks dests classes
  have size := walkRank_last p
  have top : ((walkCells p 256 ⟨p.d0, p.c0⟩).getLast?).map (walkRank p) = some (walkRank p ⟨p.d1, p.c1⟩) := by
    rw [← List.getLast?_map, ranks, ← size, List.getLast?_range]
    simp
  obtain ⟨c, last, rank⟩ := Option.map_eq_some_iff.mp top
  rw [last, walkRank_inj (all c (List.mem_of_getLast? last)) (last_inWindow dests classes) rank]

/-- Settles O20: the places of the walk's cells are those of the window, one after the other. -/
theorem walkVisitsWindowOnce : Obligations.WalkVisitsWindowOnce := by
  intro p dests classes cells
  obtain ⟨ranks, all⟩ := walk_ranks dests classes
  refine ⟨walk_nodup dests classes, fun c => ⟨all c, fun inside => ?_⟩, walk_length dests classes, walk_getLast dests classes⟩
  have place : walkRank p c ∈ cells.map (walkRank p) := by
    rw [ranks]
    exact List.mem_range.mpr (walkRank_lt inside)
  obtain ⟨d, among, same⟩ := List.mem_map.mp place
  rwa [walkRank_inj inside (all d among) same.symm]

end Sys2Proof.Machine
end

section
/-! SUPPORT. Loads and reads along the walk: how they join, the cells that a load writes, and the plan asks with their answers
(sections 4.2 to 4.6). -/

namespace Sys2Proof.Machine

/-! ### Loads and reads join -/

theorem storeValues_of_done (vs : List Byte) {l : Load} (done : l.plan.write.done = true) : storeValues vs l = l := by
  cases vs with
  | nil => rfl
  | cons v vs => exact if_pos done

theorem storeValues_cons (v : Byte) (vs : List Byte) {l : Load} (going : l.plan.write.done = false) :
    storeValues (v :: vs) l = storeValues vs
      { plan := storeValue l.plan v, written := l.written + 1, clamped := l.clamped || (actionOfCode v.toNat).isNone } :=
  if_neg (by rw [going]; exact Bool.false_ne_true)

theorem storeValues_append (vs ws : List Byte) (l : Load) : storeValues (vs ++ ws) l = storeValues ws (storeValues vs l) := by
  induction vs generalizing l with
  | nil => rfl
  | cons v vs ih =>
    cases done : l.plan.write.done with
    | true => rw [storeValues_of_done _ done, storeValues_of_done _ done, storeValues_of_done _ done]
    | false => rw [List.cons_append, storeValues_cons v _ done, storeValues_cons v _ done, ih]

/-- What a load writes does not depend on what has been written before (R57). -/
theorem storeValues_counts (vs : List Byte) (p : RoutePlan) (written : Nat) (clamped : Bool) :
    storeValues vs ⟨p, written, clamped⟩ =
      ⟨(continueLoad vs p).plan, written + (continueLoad vs p).written, clamped || (continueLoad vs p).clamped⟩ := by
  unfold continueLoad
  induction vs generalizing p written clamped with
  | nil => simp [storeValues]
  | cons v vs ih =>
    cases done : p.write.done with
    | true => simp [storeValues_of_done _ (l := ⟨p, _, _⟩) done]
    | false =>
      rw [storeValues_cons v vs (l := ⟨p, written, clamped⟩) done, storeValues_cons v vs (l := ⟨p, 0, false⟩) done, ih,
        ih _ (0 + 1)]
      simp only [Load.mk.injEq, true_and, Bool.or_assoc, Bool.false_or, and_true]
      omega

theorem readValues_of_done (p : RoutePlan) (cells : BankCells) (n : Nat) {c : Cursor} (done : c.done = true) :
    readValues p cells n c = ([], c) := by
  cases n with
  | zero => rfl
  | succ n => exact if_pos done

theorem readValues_succ (p : RoutePlan) (cells : BankCells) (n : Nat) {c : Cursor} (going : c.done = false) :
    readValues p cells (n + 1) c =
      (cellOf cells c.cell :: (readValues p cells n (advance p c)).1, (readValues p cells n (advance p c)).2) :=
  if_neg (by rw [going]; exact Bool.false_ne_true)

theorem readValues_add (p : RoutePlan) (cells : BankCells) (m n : Nat) (c : Cursor) :
    readValues p cells (m + n) c =
      ((readValues p cells m c).1 ++ (readValues p cells n (readValues p cells m c).2).1,
        (readValues p cells n (readValues p cells m c).2).2) := by
  induction m generalizing c with
  | zero => rw [Nat.zero_add]; rfl
  | succ m ih =>
    cases done : c.done with
    | true => simp only [readValues_of_done p cells _ done, List.nil_append]
    | false => rw [Nat.succ_add, readValues_succ p cells _ done, readValues_succ p cells _ done, ih]; rfl

/-! ### The cells that a load writes -/

/-- The action that an entry value stores; a value that is no action stores PASS (R56). -/
def entryAction (v : Byte) : Action := if v.toNat = 1 then .divert else if v.toNat = 2 then .group else .pass

theorem entryAction_eq (v : Byte) : (actionOfCode v.toNat).getD .pass = entryAction v := by
  unfold actionOfCode entryAction
  split
  · next h => simp [h]
  · next h => simp [h]
  · next h => simp [h]
  · next h1 h2 =>
    rw [if_neg h1, if_neg h2]
    rfl

theorem actionOfCode_isNone (v : Byte) : (actionOfCode v.toNat).isNone = decide (2 < v.toNat) := by
  unfold actionOfCode
  split
  · next h => simp [h]
  · next h => simp [h]
  · next h => simp [h]
  · next h0 h1 h2 =>
    have not0 : v.toNat ≠ 0 := h0
    have not1 : v.toNat ≠ 1 := h1
    have not2 : v.toNat ≠ 2 := h2
    exact (decide_eq_true (by omega : 2 < v.toNat)).symm

theorem cellOf_eq (cells : BankCells) (c : Cell) : cellOf cells c = cells[c.dest.val][c.cls.val] := rfl

theorem putCell_eq (cells : BankCells) (c : Cell) (a : Action) :
    putCell cells c a = cells.set c.dest.val (cells[c.dest.val].set c.cls.val a) := rfl

@[simp] theorem cellOf_putCell_self (cells : BankCells) (c : Cell) (a : Action) : cellOf (putCell cells c a) c = a := by
  simp [cellOf_eq, putCell_eq]

theorem cellOf_putCell_of_ne (cells : BankCells) {c d : Cell} (other : d ≠ c) (a : Action) :
    cellOf (putCell cells c a) d = cellOf cells d := by
  obtain ⟨dest, cls⟩ := d
  by_cases same : c.dest = dest
  · subst same
    have column : (c.cls : Nat) ≠ cls := fun h => other (by cases c; exact congrArg _ (Fin.ext h).symm)
    simp [cellOf_eq, putCell_eq, column]
  · have row : (c.dest : Nat) ≠ dest := fun h => same (Fin.ext h)
    simp [cellOf_eq, putCell_eq, row]

/-- The bank after a load of values into the cells of a walk (R55). -/
def loadCells (bank : BankCells) : List Cell → List Byte → BankCells
  | c :: cs, v :: vs => loadCells (putCell bank c (entryAction v)) cs vs
  | _, _ => bank

theorem cellOf_loadCells_of_not_mem (cs : List Cell) (vs : List Byte) (bank : BankCells) {c : Cell} (away : c ∉ cs.take vs.length) :
    cellOf (loadCells bank cs vs) c = cellOf bank c := by
  induction cs generalizing bank vs with
  | nil => rfl
  | cons d cs ih =>
    cases vs with
    | nil => rfl
    | cons v vs =>
      rw [List.length_cons, List.take_succ_cons, List.mem_cons, not_or] at away
      rw [loadCells, ih vs _ away.2, cellOf_putCell_of_ne _ away.1]

theorem cellOf_loadCells (cs : List Cell) (vs : List Byte) (bank : BankCells) (once : cs.Nodup) {i : Nat} {c : Cell} {v : Byte}
    (cell : cs[i]? = some c) (value : vs[i]? = some v) : cellOf (loadCells bank cs vs) c = entryAction v := by
  induction cs generalizing bank vs i with
  | nil => cases cell
  | cons d cs ih =>
    obtain ⟨first, later⟩ := List.nodup_cons.mp once
    cases vs with
    | nil => cases value
    | cons w vs =>
      cases i with
      | zero =>
        obtain rfl : d = c := Option.some.inj cell
        obtain rfl : w = v := Option.some.inj value
        rw [loadCells, cellOf_loadCells_of_not_mem cs vs _ fun among => first (List.mem_of_mem_take among), cellOf_putCell_self]
      | succ i => exact ih vs _ later cell value

/-! ### The plan under a load -/

theorem nextCell_congr {p q : RoutePlan} (order : q.order = p.order) (d0 : q.d0 = p.d0) (d1 : q.d1 = p.d1) (c0 : q.c0 = p.c0)
    (c1 : q.c1 = p.c1) (c : Cell) : nextCell q c = nextCell p c := by
  simp only [nextCell, nextDest, nextClass, order, d0, d1, c0, c1]

/-- A plan with other cells in its standby bank and another write cursor. -/
def loadedPlan (p : RoutePlan) (bank : BankCells) (write : Cursor) : RoutePlan :=
  { putBank p (otherBank p.active) bank with write := write }

theorem putBank_bankCells (p : RoutePlan) (k : Bank) : putBank p k (bankCells p k) = p := by cases k <;> rfl

theorem nextCell_loadedPlan (p : RoutePlan) (bank : BankCells) (write : Cursor) (c : Cell) :
    nextCell (loadedPlan p bank write) c = nextCell p c := by
  unfold loadedPlan putBank
  cases p.active <;> exact nextCell_congr rfl rfl rfl rfl rfl c

theorem bankCells_loadedPlan (p : RoutePlan) (bank : BankCells) (write : Cursor) :
    bankCells (loadedPlan p bank write) (otherBank p.active) = bank := by
  unfold loadedPlan
  cases p.active <;> rfl

/-- One value stored: its cell in the standby bank, and the cursor one step along the walk (R55). -/
theorem storeValue_loadedPlan (p : RoutePlan) (bank : BankCells) (c : Cell) (v : Byte) :
    storeValue (loadedPlan p bank ⟨c, false⟩) v = loadedPlan p (putCell bank c (entryAction v)) (advance p ⟨c, false⟩) := by
  have moved : advance (loadedPlan p bank ⟨c, false⟩) ⟨c, false⟩ = advance p ⟨c, false⟩ := by
    simp only [advance, nextCell_loadedPlan]
  have written : (loadedPlan p bank ⟨c, false⟩).write = ⟨c, false⟩ := rfl
  unfold storeValue
  rw [entryAction_eq, written, moved]
  unfold loadedPlan
  cases active : p.active <;> simp [putBank, standby, otherBank, bankCells, active]

/-- A load from a cell that is not the walk's end writes the cells of the walk from there, one for each value (R53, R55, R56). -/
theorem storeValues_walk (p : RoutePlan) (vs : List Byte) (n : Nat) {c : Cell} (inside : InWindow p c)
    (enough : windowSize p ≤ walkRank p c + n) (bank : BankCells) (clamped : Bool) (written : Nat) :
    ∃ write : Cursor,
      storeValues vs ⟨loadedPlan p bank ⟨c, false⟩, written, clamped⟩ =
        ⟨loadedPlan p (loadCells bank (walkCells p n c) vs) write, written + min vs.length (walkCells p n c).length,
          clamped || (vs.take (walkCells p n c).length).any fun v => decide (2 < v.toNat)⟩ ∧
      write.done = decide ((walkCells p n c).length ≤ vs.length) ∧
      some write.cell = if (walkCells p n c).length ≤ vs.length then some ⟨p.d1, p.c1⟩ else (walkCells p n c)[vs.length]? := by
  have place := walkRank_lt inside
  induction vs generalizing c n bank clamped written with
  | nil =>
    cases n with
    | zero => omega
    | succ n => exact ⟨⟨c, false⟩, by simp [storeValues, loadCells, walkCells], by simp [walkCells], by simp [walkCells]⟩
  | cons v vs ih =>
    cases n with
    | zero => omega
    | succ n =>
      rw [storeValues_cons v vs (l := ⟨loadedPlan p bank ⟨c, false⟩, written, clamped⟩) rfl, storeValue_loadedPlan, actionOfCode_isNone]
      cases next : nextCell p c with
      | none =>
        have moved : advance p ⟨c, false⟩ = ⟨c, true⟩ := by simp only [advance, next]
        have walk : walkCells p (n + 1) c = [c] := by simp only [walkCells, next]
        rw [moved, storeValues_of_done vs (by rfl), walk]
        refine ⟨⟨c, true⟩, ?_, by simp, ?_⟩
        · simp [loadCells]
        · simp [(nextCell_eq_none inside).mp next]
      | some d =>
        have inside' := nextCell_inWindow inside next
        have rank := walkRank_next inside next
        have moved : advance p ⟨c, false⟩ = ⟨d, false⟩ := by simp only [advance, next]
        have walk : walkCells p (n + 1) c = c :: walkCells p n d := by simp only [walkCells, next]
        obtain ⟨write, stored, done, cell⟩ :=
          ih n inside' (by omega) (putCell bank c (entryAction v)) (clamped || decide (2 < v.toNat)) (written + 1) (walkRank_lt inside')
        rw [moved, stored, walk]
        refine ⟨write, ?_, ?_, ?_⟩
        · simp only [loadCells, List.length_cons, List.take_succ_cons, List.any_cons, Bool.or_assoc, Load.mk.injEq, true_and, and_true]
          omega
        · simp [done]
        · simp [cell]

/-- The whole load from the window start (R55). -/
theorem startLoad_walk {p : RoutePlan} (dests : p.d0 ≤ p.d1) (classes : p.c0 ≤ p.c1) (vs : List Byte) :
    let cells := walkCells p 256 ⟨p.d0, p.c0⟩
    ∃ write : Cursor,
      startLoad vs p = ⟨loadedPlan p (loadCells (bankCells p (otherBank p.active)) cells vs) write, min vs.length cells.length,
        (vs.take cells.length).any fun v => decide (2 < v.toNat)⟩ ∧
      write.done = decide (cells.length ≤ vs.length) ∧
      some write.cell = if cells.length ≤ vs.length then some ⟨p.d1, p.c1⟩ else cells[vs.length]? := by
  have begins : { p with write := windowStart p } = loadedPlan p (bankCells p (otherBank p.active)) ⟨⟨p.d0, p.c0⟩, false⟩ := by
    rw [loadedPlan, putBank_bankCells]
    rfl
  have enough : windowSize p ≤ walkRank p ⟨p.d0, p.c0⟩ + 256 := by
    have := windowSize_le p
    omega
  have walked := storeValues_walk p vs 256 (first_inWindow dests classes) enough (bankCells p (otherBank p.active)) false 0
  rw [← begins, Nat.zero_add] at walked
  exact walked

/-- Settles O21: the cells of the walk, once each, take the values. -/
theorem loadFollowsTheWalk : Obligations.LoadFollowsTheWalk := by
  intro p vs dests classes some_ cells n l bank
  obtain ⟨write, loaded, done, cell⟩ := startLoad_walk dests classes vs
  have load : l = _ := loaded
  have filled : bank = loadCells (bankCells p (otherBank p.active)) cells vs := by
    show bankCells l.plan _ = _
    rw [load]
    exact bankCells_loadedPlan _ _ _
  have cut : vs.take n = vs.take cells.length := by
    simp only [n, List.take_eq_take_iff]
    omega
  refine ⟨by rw [load], fun i c v _ place value => ?_, fun c away => ?_, ?_, ?_, ?_, ?_⟩
  · rw [filled, cellOf_loadCells cells vs _ (walk_nodup dests classes) place value]
    rfl
  · rw [filled]
    refine cellOf_loadCells_of_not_mem cells vs _ fun among => away ?_
    have taken : cells.take n = cells.take vs.length := by
      simp only [n, List.take_eq_take_iff]
      omega
    rwa [taken]
  · rw [load, cut]
    simp [cells]
  · rw [load]
    show write.done = true ↔ _
    rw [done, decide_eq_true_iff]
  · rw [load]
    exact cell
  · rw [filled, load]
    rfl

/-! ### Reading back -/

/-- A read takes the cells of the walk (R61). -/
theorem readValues_walk (p : RoutePlan) (cells : BankCells) (n : Nat) (c : Cell) :
    (readValues p cells n ⟨c, false⟩).1 = (walkCells p n c).map (cellOf cells) := by
  induction n generalizing c with
  | zero => rfl
  | succ n ih =>
    rw [readValues_succ p cells n rfl, walkCells, List.map_cons]
    cases next : nextCell p c with
    | none =>
      have moved : advance p ⟨c, false⟩ = ⟨c, true⟩ := by simp only [advance, next]
      rw [moved, readValues_of_done p cells n rfl]
      rfl
    | some d =>
      have moved : advance p ⟨c, false⟩ = ⟨d, false⟩ := by simp only [advance, next]
      rw [moved]
      exact congrArg _ (ih d)

theorem walkCells_congr {p q : RoutePlan} (same : ∀ c, nextCell q c = nextCell p c) (n : Nat) (c : Cell) :
    walkCells q n c = walkCells p n c := by
  induction n generalizing c with
  | zero => rfl
  | succ n ih => simp only [walkCells, same, ih]

/-- A shorter walk is the start of a longer one. -/
theorem walkCells_take (p : RoutePlan) {m n : Nat} (shorter : m ≤ n) (c : Cell) : walkCells p m c = (walkCells p n c).take m := by
  induction m generalizing n c with
  | zero => rfl
  | succ m ih =>
    obtain ⟨n, rfl⟩ : ∃ k, n = k + 1 := ⟨n - 1, by omega⟩
    simp only [walkCells, List.take_succ_cons]
    cases nextCell p c with
    | none => simp
    | some d => exact congrArg _ (ih (by omega) d)

/-- Settles O22: loads and reads go on where they stopped, and a read takes the cells that a load has filled. -/
theorem loadsAndReadsJoin : Obligations.LoadsAndReadsJoin := by
  refine ⟨fun p vs ws => ?_, fun p cells m n c => readValues_add p cells m n c, fun p vs dests classes => ?_⟩
  · intro first second whole
    have joined : whole = storeValues ws first := storeValues_append vs ws _
    have counted : whole = ⟨second.plan, first.written + second.written, first.clamped || second.clamped⟩ :=
      joined.trans (storeValues_counts ws first.plan first.written first.clamped)
    rw [counted]
    exact ⟨rfl, rfl, rfl⟩
  · intro l
    obtain ⟨write, loaded, -⟩ := startLoad_walk dests classes vs
    have load : l = _ := loaded
    have few := walk_length dests classes
    have size := windowSize_le p
    rw [readValues_walk, load]
    dsimp only
    rw [bankCells_loadedPlan, walkCells_congr (nextCell_loadedPlan p _ _),
      walkCells_take p (show min vs.length (walkCells p 256 ⟨p.d0, p.c0⟩).length ≤ 256 by omega)]
    refine List.ext_getElem? fun i => ?_
    rw [List.getElem?_map, List.getElem?_map, List.getElem?_take, List.getElem?_take]
    split
    · rename_i within
      obtain ⟨c, cell⟩ : ∃ c, (walkCells p 256 ⟨p.d0, p.c0⟩)[i]? = some c := ⟨_, List.getElem?_eq_getElem (by omega)⟩
      obtain ⟨v, value⟩ : ∃ v, vs[i]? = some v := ⟨_, List.getElem?_eq_getElem (by omega)⟩
      rw [cell, value, Option.map_some, Option.map_some,
        cellOf_loadCells _ vs _ (walk_nodup dests classes) cell value]
      rfl
    · rfl

/-! ### Answers -/

/-- The answer that claims write out for a refusal is the queued ANSWER frame of a refusal (Table 9-7). -/
theorem answered_refusal (a : Ask) (code : Nat) (r : ResultCode) (t : State) :
    answered a code r.code.toNat false [] t = queueAnswer (answerFrame a.tag (BitVec.ofNat 8 code) (refusal r) t) t := by
  cases r <;> rfl

/-- An ask for the node alone whose effect is a refusal changes nothing but what its answer does (R160). -/
theorem exec_askCommand_refused {c : AskCode} {a : Ask} {s : State} {code : Nat} {r : ResultCode}
    (listening : Listening s) (mine : Mine a.target s) (short : a.fields.length < 32)
    (length : c.lengthOk a.fields.length = true) (notReset : c ≠ .nodeReset) (named : c.code = BitVec.ofNat 8 code)
    (effect : askEffect c a.fields s = (s, refusal r)) :
    exec (askCommand c a) s = .next (answered a code r.code.toNat false [] s) := by
  rw [exec_askCommand_mine listening mine short length notReset, effect, answered_refusal, named]

/-! ### The plan asks -/

theorem orderOfCode_of_le {b : Byte} (known : b.toNat ≤ 1) :
    orderOfCode b.toNat = some (if b = 0 then .destFirst else .classFirst) := by
  by_cases zero : b = 0
  · rw [zero]
    rfl
  · have one : b.toNat = 1 := by
      have : b.toNat ≠ 0 := fun h => zero (BitVec.eq_of_toNat_eq h)
      omega
    rw [one, if_neg zero]
    rfl

theorem orderOfCode_of_gt {n : Nat} (unknown : 1 < n) : orderOfCode n = none := by
  match n, unknown with
  | n + 2, _ => rfl

theorem planSetWindow_refused {d0 d1 c0 c1 order : Byte}
    (bad : ¬ (order.toNat ≤ 1 ∧ d0.toNat ≤ min d1.toNat 63 ∧ c0.toNat ≤ min c1.toNat 3)) (p : RoutePlan) :
    planSetWindow [d0, d1, c0, c1, order] p = (p, refusal .badValue) := by
  unfold planSetWindow
  show (match orderOfCode order.toNat with
    | none => (p, refusal .badValue)
    | some _ => _) = _
  by_cases known : order.toNat ≤ 1
  · rw [orderOfCode_of_le known]
    exact if_neg fun inside => bad ⟨known, inside⟩
  · rw [orderOfCode_of_gt (Nat.lt_of_not_le known)]

theorem planSetWindow_taken {d0 d1 c0 c1 order : Byte} (known : order.toNat ≤ 1) (dests : d0.toNat ≤ min d1.toNat 63)
    (classes : c0.toNat ≤ min c1.toNat 3) (p : RoutePlan) :
    let start : Cursor := ⟨⟨Fin.ofNat 64 d0.toNat, Fin.ofNat 4 c0.toNat⟩, false⟩
    planSetWindow [d0, d1, c0, c1, order] p =
      ({ p with
          d0 := start.cell.dest, d1 := Fin.ofNat 64 (min d1.toNat 63), c0 := start.cell.cls, c1 := Fin.ofNat 4 (min c1.toNat 3)
          order := if order = 0 then .destFirst else .classFirst
          write := start, read := start },
        okay (decide (63 < d1.toNat ∨ 3 < c1.toNat))
          ([d0.toNat, min d1.toNat 63, c0.toNat, min c1.toNat 3, order.toNat].map (BitVec.ofNat 8))) := by
  intro start
  have mark : (min d1.toNat 63 != d1.toNat || min c1.toNat 3 != c1.toNat) = decide (63 < d1.toNat ∨ 3 < c1.toNat) := by
    rw [Bool.eq_iff_iff]
    simp only [Bool.or_eq_true, bne_iff_ne, decide_eq_true_iff]
    omega
  have order_code : (if order = 0 then FillOrder.destFirst else FillOrder.classFirst).code = order.toNat := by
    by_cases zero : order = 0
    · rw [if_pos zero, zero]
      rfl
    · have : order.toNat ≠ 0 := fun h => zero (BitVec.eq_of_toNat_eq h)
      rw [if_neg zero]
      show 1 = order.toNat
      omega
  unfold planSetWindow
  show (match orderOfCode order.toNat with
    | none => (p, refusal .badValue)
    | some _ => _) = _
  rw [orderOfCode_of_le known]
  refine (if_pos ⟨dests, classes⟩).trans ?_
  rw [order_code]
  refine Prod.ext rfl ?_
  exact congrArg (fun b => okay b _) mark

/-- The bank that a selector of 0 to 3 names (R60). -/
theorem bankOfSelector_of_le {b : Byte} (known : b.toNat ≤ 3) (p : RoutePlan) :
    bankOfSelector p b.toNat = some (if b = 0 then .a else if b = 1 then .b else if b = 2 then p.active else otherBank p.active) := by
  have cases_ : b = 0 ∨ b = 1 ∨ b = 2 ∨ b = 3 := by
    have : b.toNat = 0 ∨ b.toNat = 1 ∨ b.toNat = 2 ∨ b.toNat = 3 := by omega
    rcases this with h | h | h | h
    · exact .inl (BitVec.eq_of_toNat_eq h)
    · exact .inr (.inl (BitVec.eq_of_toNat_eq h))
    · exact .inr (.inr (.inl (BitVec.eq_of_toNat_eq h)))
    · exact .inr (.inr (.inr (BitVec.eq_of_toNat_eq h)))
  rcases cases_ with rfl | rfl | rfl | rfl <;> rfl

theorem bankOfSelector_of_gt {n : Nat} (unknown : 3 < n) (p : RoutePlan) : bankOfSelector p n = none := by
  match n, unknown with
  | n + 4, _ => rfl

theorem readFrom_refused {selector count : Byte} (bad : ¬ (selector.toNat ≤ 3 ∧ 1 ≤ count.toNat ∧ count.toNat ≤ 28)) (start : Cursor)
    (p : RoutePlan) : readFrom start selector.toNat count.toNat p = (p, refusal .badValue) := by
  unfold readFrom
  by_cases known : selector.toNat ≤ 3
  · rw [bankOfSelector_of_le known]
    exact if_neg fun inside => bad ⟨known, inside⟩
  · rw [bankOfSelector_of_gt (Nat.lt_of_not_le known)]

theorem readFrom_taken {selector count : Byte} (known : selector.toNat ≤ 3) (low : 1 ≤ count.toNat) (high : count.toNat ≤ 28)
    (start : Cursor) (p : RoutePlan) :
    let bank := if selector = 0 then .a else if selector = 1 then .b else if selector = 2 then p.active else otherBank p.active
    let r := readValues p (bankCells p bank) count.toNat start
    readFrom start selector.toNat count.toNat p =
      ({ p with read := r.2 }, okay false ((r.1.length :: r.1.map Action.code).map (BitVec.ofNat 8))) := by
  intro bank r
  have actions : ∀ as : List Action, as.flatMap (fun a => bytes1 a.code) = (as.map Action.code).map (BitVec.ofNat 8) := fun as => by
    induction as with
    | nil => rfl
    | cons a as ih => rw [List.flatMap_cons, ih]; rfl
  unfold readFrom
  rw [bankOfSelector_of_le known]
  refine (if_pos ⟨low, high⟩).trans (Prod.ext rfl ?_)
  show readReply r.1 = _
  rw [readReply, actions]
  rfl

/-- Settles O19: each plan ask by its own operation, with its answer. -/
theorem planIsLoadedAndRead : Obligations.PlanIsLoadedAndRead := by
  refine ⟨fun a s d0 d1 c0 c1 order listening mine fields => ?_, fun a s listening mine => ?_⟩
  · intro d c start
    have short : a.fields.length < 32 := by rw [fields]; exact (by decide : 5 < 32)
    have length : AskCode.setWindow.lengthOk a.fields.length = true := by rw [fields]; rfl
    by_cases right : order.toNat ≤ 1 ∧ d0.toNat ≤ d ∧ c0.toNat ≤ c
    · rw [if_pos right]
      refine exec_askCommand_ok (c := .setWindow) listening mine short length nofun rfl ?_
      rw [fields]
      show onPlan (planSetWindow _) s = _
      rw [onPlan, planSetWindow_taken right.1 right.2.1 right.2.2]
    · rw [if_neg right]
      refine exec_askCommand_refused (c := .setWindow) (r := .badValue) listening mine short length nofun rfl ?_
      rw [fields]
      show onPlan (planSetWindow _) s = _
      rw [onPlan, planSetWindow_refused right]
  · intro loaded
    refine ⟨fun low high => ⟨?_, ?_⟩, fun selector count fields => ?_⟩
    · exact exec_askCommand_ok (c := .writeEntries) listening mine (by omega) (by simp [AskCode.lengthOk, low, high]) nofun rfl rfl
    · exact exec_askCommand_ok (c := .continueEntries) listening mine (by omega) (by simp [AskCode.lengthOk, low, high]) nofun rfl rfl
    · intro bank read
      have short : a.fields.length < 32 := by rw [fields]; exact (by decide : 2 < 32)
      have read_ : ∀ (c : AskCode) (code : Nat) (start : Cursor), c.lengthOk a.fields.length = true → c ≠ .nodeReset →
          c.code = BitVec.ofNat 8 code → askEffect c a.fields s = onPlan (readFrom start selector.toNat count.toNat) s →
          exec (askCommand c a) s = read code start := fun c code start length notReset named effect => by
        show _ = if _ then _ else _
        split
        · rename_i right
          refine exec_askCommand_ok listening mine short length notReset named ?_
          rw [effect, onPlan, readFrom_taken right.1 right.2.1 right.2.2]
        · rename_i wrong
          refine exec_askCommand_refused (r := .badValue) listening mine short length notReset named ?_
          rw [effect, onPlan, readFrom_refused wrong]
      exact ⟨read_ .readEntries 0x13 _ (by rw [fields]; rfl) nofun rfl (by rw [fields]; rfl),
        read_ .continueRead 0x14 _ (by rw [fields]; rfl) nofun rfl (by rw [fields]; rfl)⟩

end Sys2Proof.Machine
end

section
/-! SUPPORT. The lane's side reads nothing of the Eye Unit: its operations commute with an update of it, and so does the whole decision of a
leading edge. -/

namespace Sys2Proof.Machine

/-- A node with another Eye Unit. -/
def withEye (e : Eye) (s : State) : State := { s with eye := e }

/-! ### The lane's operations and the Eye Unit -/

theorem trim_withEye (e : Eye) (s : State) : withEye e (trim s) = trim (withEye e s) :=
  raiseAll_with_eye _ _ _ e

theorem evalReady_withEye (e : Eye) (s : State) : withEye e (evalReady s) = evalReady (withEye e s) := by
  unfold evalReady
  simp only [apply_ite (withEye e)]
  refine ite_congr rfl (fun _ => ?_) fun _ => rfl
  cases front : frontRecord s.lane <;> simp only [withEye, front]
  rfl

theorem refuseRequest_withEye (e : Eye) (r : RefuseReason) (n : Nat) (s : State) :
    withEye e (refuseRequest r n s) = refuseRequest r n (withEye e s) := rfl

theorem endAfterDischarge_withEye (e : Eye) (s : State) : withEye e (endAfterDischarge s) = endAfterDischarge (withEye e s) := by
  unfold endAfterDischarge
  simp only [apply_ite (withEye e)]
  refine ite_congr rfl (fun _ => ?_) fun _ => rfl
  cases refused : requestRefusal s.lane <;> simp only [withEye, refused]
  rfl

theorem completionTaken_withEye (e : Eye) (r : LaneRecord) (s : State) :
    withEye e (completionTaken r s) = completionTaken r (withEye e s) := by
  unfold completionTaken
  simp only [apply_ite (withEye e)]
  exact ite_congr rfl (fun _ => rfl) fun _ => endAfterDischarge_withEye e _

theorem completeDischarge_withEye (e : Eye) (s : State) : withEye e (completeDischarge s) = completeDischarge (withEye e s) := by
  have lit : withEye e (evalReady { s with lane := dischargedLane s.lane }) =
      evalReady { withEye e s with lane := dischargedLane s.lane } := evalReady_withEye e _
  unfold completeDischarge
  cases passed : (zone s.lane s.lane.zoneCount).record with
  | none => simp only [show (withEye e s).lane = s.lane from rfl, passed, lit]
  | some r => simp only [show (withEye e s).lane = s.lane from rfl, passed, completionTaken_withEye, lit]

theorem startDischarge_withEye (e : Eye) (s : State) : withEye e (startDischarge s) = startDischarge (withEye e s) := by
  have ends : ∀ (t : State) (k : Nat), withEye e (if zoneBlocked t k then t else completeDischarge t) =
      if zoneBlocked (withEye e t) k then withEye e t else completeDischarge (withEye e t) := fun t k => by
    rw [apply_ite (withEye e), completeDischarge_withEye]
    rfl
  refine (ends _ _).trans ?_
  rw [evalReady_withEye]
  rfl

theorem idleRequest_withEye (e : Eye) (n : Nat) (s : State) : withEye e (idleRequest n s) = idleRequest n (withEye e s) := by
  unfold idleRequest
  cases refused : requestRefusal s.lane with
  | none =>
    simp only [show (withEye e s).lane = s.lane from rfl, refused]
    exact startDischarge_withEye e _
  | some r => simp only [show (withEye e s).lane = s.lane from rfl, refused, refuseRequest_withEye]

theorem endInWaiting_withEye (e : Eye) (s : State) : withEye e (endInWaiting s) = endInWaiting (withEye e s) := by
  unfold endInWaiting
  simp only [apply_ite (withEye e)]
  exact ite_congr rfl (fun _ => idleRequest_withEye e 2 _) fun _ => rfl

theorem zoneZHeld_withEye (e : Eye) (s : State) : withEye e (zoneZHeld s) = zoneZHeld (withEye e s) := by
  unfold zoneZHeld
  simp only [apply_ite (withEye e)]
  refine ite_congr rfl (fun _ => ?_) fun _ => rfl
  simp only [show (withEye e s).lane = s.lane from rfl, show (withEye e s).counter = s.counter from rfl]
  split
  · simp only [apply_ite (withEye e)]
    exact ite_congr rfl (fun _ => startDischarge_withEye e _) fun _ => endInWaiting_withEye e s
  · exact endInWaiting_withEye e s

theorem enterZone1_withEye (e : Eye) (s : State) : withEye e (enterZone1 s) = enterZone1 (withEye e s) := by
  unfold enterZone1
  simp only [show (withEye e s).lane = s.lane from rfl]
  split
  · exact evalReady_withEye e _
  · rw [evalReady_withEye, trim_withEye]
    rfl

theorem arrive_withEye (e : Eye) (k : Nat) (s : State) : withEye e (arrive k s) = arrive k (withEye e s) := by
  unfold arrive
  simp only [show (withEye e s).lane = s.lane from rfl]
  split
  · rfl
  · simp only [apply_ite (withEye e), zoneZHeld_withEye, evalReady_withEye]
    rfl

theorem startTransfer_withEye (e : Eye) (k : Nat) (s : State) : withEye e (startTransfer k s) = startTransfer k (withEye e s) := by
  unfold startTransfer
  simp only [apply_ite (withEye e), arrive_withEye, evalReady_withEye]
  rfl

theorem zone1Fills_withEye (e : Eye) (s : State) : withEye e (zone1Fills s) = zone1Fills (withEye e s) := by
  unfold zone1Fills
  simp only [apply_ite (withEye e), enterZone1_withEye, evalReady_withEye]
  rfl

theorem laneRule_withEye (e : Eye) (s : State) : laneRule (withEye e s) = (laneRule s).map (withEye e) := by
  unfold laneRule
  simp only [show (withEye e s).lane = s.lane from rfl]
  split
  · exact congrArg some (zone1Fills_withEye e s).symm
  · rw [Option.map_some, evalReady_withEye]
    rfl
  · cases dueZone s.lane s.lane.zoneCount with
    | none => rfl
    | some k => exact congrArg some (startTransfer_withEye e k s).symm

theorem laneRules_withEye (e : Eye) (fuel : Nat) (s : State) : withEye e (laneRules fuel s) = laneRules fuel (withEye e s) := by
  induction fuel generalizing s with
  | zero => rfl
  | succ fuel ih =>
    rw [laneRules, laneRules, laneRule_withEye]
    cases rule : laneRule s with
    | none => rfl
    | some t => exact ih t

theorem settleLane_withEye (e : Eye) (s : State) : withEye e (settleLane s) = settleLane (withEye e s) :=
  laneRules_withEye e 128 s

/-! ### The decision and the Eye Unit -/

theorem commitReservation_withEye (e : Eye) (how : Admit) (t : ToteFields) (lead : Pos) (s : State) :
    withEye e (commitReservation how t lead s) = commitReservation how t lead (withEye e s) := by
  cases how with
  | plain => rfl
  | onReservation => rfl
  | newReservation n => exact apply_ite (withEye e) _ _ _

theorem commitDivert_withEye (e : Eye) (v : Verdict) (how : Admit) (t : ToteFields) (lead : Pos) (s : State) :
    withEye e (commitDivert v how t lead s) = commitDivert v how t lead (withEye e s) := by
  unfold commitDivert
  rw [settleLane_withEye, commitReservation_withEye]
  rfl

theorem raisePassed_withEye (e : Eye) (k : PassKind) (t : ToteFields) (lead : Pos) (s : State) :
    withEye e (raisePassed k t lead s) = raisePassed k t lead (withEye e s) := by
  cases k <;> rfl

theorem offerHandOff_withEye (e : Eye) (f : Frame) (tag order : Ident) (lead : Pos) (s : State) :
    withEye e (offerHandOff f tag order lead s) = offerHandOff f tag order lead (withEye e s) :=
  offerHandOff_with_eye f tag order lead s e

theorem crowdedTote_withEye (e : Eye) (k : PassKind) (t : ToteFields) (lead : Pos) (s : State) :
    withEye e (crowdedTote k t lead s) = crowdedTote k t lead (withEye e s) := by
  have carried : ∀ (n : NoteBody) (u : State), withEye e (settleLane (raise .crowded n (trim u))) =
      settleLane (raise .crowded n (trim (withEye e u))) := fun n u => by
    rw [settleLane_withEye, ← trim_withEye]
    rfl
  unfold crowdedTote
  simp only [apply_ite (withEye e)]
  exact ite_congr rfl (fun _ => carried _ _) fun _ => rfl

/-- An operation with an outcome, such as the decision of a tote, reads nothing of the Eye Unit. -/
def EyeBlind (f : State → State × ToteOutcome) : Prop :=
  ∀ (e : Eye) (s : State), f (withEye e s) = (withEye e (f s).1, (f s).2)

theorem passTote_eyeBlind (k : PassKind) (t : ToteFields) (lead : Pos) : EyeBlind (passTote k t lead) := by
  intro e s
  by_cases crowded : isCrowded lead s.diverter = true
  · rw [passTote, if_pos (show isCrowded lead (withEye e s).diverter = true from crowded), passTote, if_pos crowded,
      crowdedTote_withEye]
  · rw [passTote, if_neg (show ¬ isCrowded lead (withEye e s).diverter = true from crowded), passTote, if_neg crowded]
    simp only [offerHandOff_withEye, ← raisePassed_withEye]
    rfl

theorem admitTote_eyeBlind (how : Admit) (t : ToteFields) (lead : Pos) : EyeBlind (admitTote how t lead) := by
  intro e s
  unfold admitTote
  rw [show verdict lead (withEye e s) = verdict lead s from rfl]
  cases verdict lead s with
  | arm fire => exact Prod.ext (commitDivert_withEye e _ _ _ _ s).symm rfl
  | join => exact Prod.ext (commitDivert_withEye e _ _ _ _ s).symm rfl
  | rethrow fire => exact Prod.ext (commitDivert_withEye e _ _ _ _ s).symm rfl
  | lateLead l => exact passTote_eyeBlind _ t lead e s
  | lateReturn l => exact passTote_eyeBlind _ t lead e s

theorem decideTote_eyeBlind (m : Option ToteFields) (lead : Pos) : EyeBlind (decideTote m lead) := by
  intro e s
  unfold decideTote
  rw [show decision m (withEye e s) = decision m s from rfl]
  cases decision m s with
  | pass => exact passTote_eyeBlind _ _ lead e s
  | passUnknown => exact passTote_eyeBlind _ _ lead e s
  | refused detail value => exact passTote_eyeBlind _ _ lead e s
  | admitted how => exact admitTote_eyeBlind how _ lead e s

/-! ### The whole leading edge -/

/-- The Eye Unit after a leading edge at P (R16). -/
def ledEye (p : Pos) (e : Eye) (c : EyeContext) : Eye :=
  { e with
    state := .blocked, lead := some p, blockedDeadline := some ⟨plus p e.maxLength, e.maxLength⟩, context := c }

theorem settleHead_withEye (e : Eye) (missed rest : List TrackRecord) (s : State) :
    withEye e (settleHead missed rest s) = settleHead missed rest (withEye e s) := raiseAll_with_eye _ _ _ e

theorem matchLead_withEye (e : Eye) (p : Pos) (s : State) :
    matchLead p (withEye e s) = ((matchLead p s).1, withEye e (matchLead p s).2) := by
  unfold matchLead
  simp only [show (withEye e s).tracking = s.tracking from rfl]
  split
  · rfl
  · split
    · rw [settleHead_withEye]
    · rfl

/-- A leading edge decides the tote on the node after its match, where the Eye Unit may already show the outcome (R16). -/
theorem leadingEdge_eq {s t u : State} {m : Option ToteFields} {o : ToteOutcome} (found : matchLead s.belt.pos s = (m, t))
    (decided : decideTote m s.belt.pos (withEye (ledEye s.belt.pos s.eye (leadContext m s.belt.pos o)) t) = (u, o)) :
    leadingEdge s = u := by
  have blind := decideTote_eyeBlind m s.belt.pos
  have outcome : (decideTote m s.belt.pos t).2 = o := congrArg Prod.snd ((blind _ t).symm.trans decided)
  have state : withEye (ledEye s.belt.pos s.eye (leadContext m s.belt.pos o)) (decideTote m s.belt.pos t).1 = u :=
    congrArg Prod.fst ((blind _ t).symm.trans decided)
  have taken : matchLead s.belt.pos { s with eye := leadTaken s.belt.pos s.eye } = (m, withEye (leadTaken s.belt.pos s.eye) t) := by
    rw [show ({ s with eye := leadTaken s.belt.pos s.eye } : State) = withEye (leadTaken s.belt.pos s.eye) s from rfl,
      matchLead_withEye, found]
  unfold leadingEdge
  simp only [taken, blind _ t, outcome]
  exact state

end Sys2Proof.Machine
end

section
/-! SUPPORT. The decision by Table 5-3, and the leading edges by their outcomes: handed on, crowded, and committed to a divert (sections 5.3
to 5.7). -/

namespace Sys2Proof.Machine

/-! ### The decision by Table 5-3 -/

theorem entryReady_iff (l : Lane) : entryReady l = true ↔ (zone l 1).state = .empty ∨ (zone l 1).state = .filling := by
  unfold entryReady
  cases (zone l 1).state <;> decide

/-- The room test for a number of zones (R75, R76). -/
theorem roomFor_iff_taken (n : Nat) (s : State) :
    roomFor n s = true ↔ ((zone s.lane 1).state = .empty ∨ (zone s.lane 1).state = .filling) ∧
      n + (held s.lane + s.lane.inbound.length + reserved s.admission) ≤ s.lane.zoneCount ∧ ¬ 4 ≤ s.lane.inbound.length := by
  rw [roomFor_iff, entryReady_iff, not_le]
  rfl

theorem hasReservation_iff (order : Ident) (a : Admission) :
    hasReservation order a = true ↔ ∃ r ∈ a.table, r.order = order := by
  simp [hasReservation]

theorem decision_of_pass {t : ToteFields} {s : State} (action : lookup s.plan t.dest t.cls = .pass) :
    decision (some t) s = .pass := by
  simp only [decision, action]

/-- A tote that steps 3 to 5 decline is decided there (R72). -/
theorem decision_of_declined {t : ToteFields} {s : State} {d : Decision} (action : lookup s.plan t.dest t.cls ≠ .pass)
    (tests : declined t s = some d) : decision (some t) s = d := by
  cases found : lookup s.plan t.dest t.cls with
  | pass => exact absurd found action
  | divert => rw [decision_of_divert found, tests, Option.getD_some]
  | group => rw [decision_of_group found, tests, Option.getD_some]

theorem declined_of_fault {t : ToteFields} {s : State} (fault : s.diverter.state = .fault) :
    declined t s = some (.refused 0 0) := if_pos fault

theorem declined_of_jammed {t : ToteFields} {s : State} (faultless : s.diverter.state ≠ .fault) (jammed : s.lane.state = .jammed) :
    declined t s = some (.refused 1 0) := (if_neg faultless).trans (if_pos jammed)

theorem declined_of_class {t : ToteFields} {s : State} (faultless : s.diverter.state ≠ .fault) (free : s.lane.state ≠ .jammed)
    (foreign : s.lane.accepted.getLsbD t.cls.val = false) : declined t s = some (.refused 2 t.cls.val) :=
  (if_neg faultless).trans ((if_neg free).trans (if_neg (by rw [foreign]; exact Bool.false_ne_true)))

theorem declined_of_accepted {t : ToteFields} {s : State} (faultless : s.diverter.state ≠ .fault) (free : s.lane.state ≠ .jammed)
    (accepted : s.lane.accepted.getLsbD t.cls.val = true) : declined t s = none :=
  (if_neg faultless).trans ((if_neg free).trans (if_pos accepted))

/-- Settles O9: each clause is one row of Table 5-3. -/
theorem decisionFollowsTable : Obligations.DecisionFollowsTable := by
  intro m s taken ready full
  refine ⟨fun none => by rw [none]; rfl, fun t some => ?_⟩
  subst some
  intro action need kept
  have atStep9 : decideDivert s = if ready ∧ 1 + taken ≤ s.lane.zoneCount ∧ ¬ full then .admitted .plain else .refused 1 1 :=
    if_congr (roomFor_iff_taken 1 s) rfl rfl
  refine ⟨decision_of_pass, fun act fault => decision_of_declined act (declined_of_fault fault),
    fun act faultless jammed => decision_of_declined act (declined_of_jammed faultless jammed),
    fun act faultless free foreign => decision_of_declined act (declined_of_class faultless free foreign),
    fun act faultless free accepted => ?_⟩
  have passes := declined_of_accepted (t := t) faultless free accepted
  have asGroup : action = .group → decision (some t) s = decideGroup t s := fun group => by
    rw [decision_of_group group, passes, Option.getD_none]
  refine ⟨fun group reserved => ?_, fun group unreserved numbered below => ?_, ?_⟩
  · rw [asGroup group, decideGroup, if_pos ((hasReservation_iff _ _).mpr reserved)]
    exact if_congr (inboundFull_iff _) rfl rfl
  · rw [asGroup group, decideGroup, if_neg (fun has => unreserved ((hasReservation_iff _ _).mp has)),
      if_neg (by rw [not_or, not_le]; exact ⟨numbered, below⟩)]
    exact if_congr Iff.rfl rfl (if_congr Iff.rfl rfl (if_congr (roomFor_iff_taken _ s) rfl rfl))
  · rw [← atStep9]
    cases found : action with
    | pass => exact absurd found act
    | divert => exact fun _ => by rw [decision_of_divert found, passes, Option.getD_none]
    | group =>
      rintro (divert | ⟨unreserved, escalated⟩)
      · cases divert
      · rw [decision_of_escalated found (fun r among same => unreserved ⟨r, among, same⟩) escalated, passes, Option.getD_none]

/-! ### Totes that are handed on -/

/-- A hand-off joins its queue, or is dropped with LINE_OVERRUN (R83, R152). -/
theorem offerHandOff_eq (f : Frame) (tag order : Ident) (lead : Pos) (s : State) :
    offerHandOff f tag order lead s =
      if s.line.handOff.length < 4 then
        { s with line := if s.line.sending.isNone then pick { s.line with handOff := s.line.handOff ++ [f] }
          else { s.line with handOff := s.line.handOff ++ [f] } }
      else raise .lineOverrun ⟨tag, order, 1, 0, lead⟩ s := by
  unfold offerHandOff
  by_cases room : s.line.handOff.length < 4
  · rw [if_pos room, if_neg (by rw [handOffFull_iff]; omega)]
    rfl
  · rw [if_neg room, if_pos ((handOffFull_iff _).mpr (by omega))]

theorem passTote_of_not_crowded {k : PassKind} {t : ToteFields} {lead : Pos} {s : State} (apart : isCrowded lead s.diverter = false) :
    passTote k t lead s = (offerHandOff (handOffFrame k t (raisePassed k t lead s)) t.tag t.order lead (raisePassed k t lead s),
      k.outcome) :=
  if_neg (by rw [apart]; exact Bool.false_ne_true)

theorem passTote_of_crowded {k : PassKind} {t : ToteFields} {lead : Pos} {s : State} (crowded : isCrowded lead s.diverter = true) :
    passTote k t lead s = (crowdedTote k t lead s, .crowded) := if_pos crowded

theorem decideTote_of_passed {m : Option ToteFields} {lead : Pos} {s : State} {k : PassKind}
    (decided : (decision m s = .pass ∧ k = .pass) ∨ (decision m s = .passUnknown ∧ k = .passUnknown) ∨
      (∃ detail value, decision m s = .refused detail value ∧ k = .refused detail value) ∨
      (∃ how l, decision m s = .admitted how ∧ (verdict lead s = .lateLead l ∧ k = .late 0 l ∨
        verdict lead s = .lateReturn l ∧ k = .late 1 l))) :
    decideTote m lead s = passTote k (m.getD anonymousFields) lead s := by
  rcases decided with ⟨d, rfl⟩ | ⟨d, rfl⟩ | ⟨detail, value, d, rfl⟩ | ⟨how, l, d, ⟨late, rfl⟩ | ⟨late, rfl⟩⟩
  · simp only [decideTote, d]
  · simp only [decideTote, d]
  · simp only [decideTote, d]
  · simp only [decideTote, d, admitTote, late]
  · simp only [decideTote, d, admitTote, late]

/-- The blocks that a decision reads are those of another node (Table 5-3, R77). -/
structure SameForDecision (s u : State) : Prop where
  belt : u.belt = s.belt
  plan : u.plan = s.plan
  diverter : u.diverter = s.diverter
  lane : u.lane = s.lane
  admission : u.admission = s.admission

theorem SameForDecision.decision {s u : State} (same : SameForDecision s u) (m : Option ToteFields) :
    decision m u = decision m s := by
  obtain ⟨-, plan, diverter, lane, admission⟩ := same
  have free : unreserved u = unreserved s := by rw [unreserved, unreserved, roomSum, roomSum, lane, admission]
  have room : ∀ n, roomFor n u = roomFor n s := fun n => by rw [roomFor, roomFor, lane, free]
  have atStep9 : decideDivert u = decideDivert s := by simp only [decideDivert, room]
  cases m with
  | none => rfl
  | some t =>
    have tests : declined t u = declined t s := by simp only [declined, diverter, lane]
    have atSteps6To8 : decideGroup t u = decideGroup t s := by simp only [decideGroup, room, atStep9, lane, admission]
    simp only [Machine.decision, plan, tests, atStep9, atSteps6To8]

theorem SameForDecision.verdict {s u : State} (same : SameForDecision s u) (lead : Pos) : verdict lead u = verdict lead s := by
  obtain ⟨belt, -, diverter, -, -⟩ := same
  unfold Machine.verdict firePosition throwLead
  rw [belt, diverter]

theorem SameForDecision.raiseAll {s u : State} (same : SameForDecision s u) (k : NoteKind) (ns : List NoteBody) :
    SameForDecision s (raiseAll k ns u) :=
  ⟨same.belt ▸ raiseAll_belt k ns u, same.plan ▸ (raiseAll_laneSide k ns u).plan, same.diverter ▸ raiseAll_diverter k ns u,
    same.lane ▸ raiseAll_lane k ns u, same.admission ▸ raiseAll_admission k ns u⟩

/-! ### The match of a leading edge -/

theorem matchLead_of_empty {p : Pos} {s : State} (none : s.tracking.queue = []) :
    matchLead p s = (.none, raise .unknownTote ⟨0, 0, 0, 0, p⟩ s) := by
  simp only [matchLead, none]

theorem matchLead_of_early {p : Pos} {s : State} {r : TrackRecord} {rest : List TrackRecord} (waits : s.tracking.queue = r :: rest)
    (early : isBefore p r.windowStart = true) :
    matchLead p s =
      (.none, raise .unknownTote ⟨r.tote.tag, r.tote.order, 1, BitVec.ofInt 16 (signedDist p r.windowStart), p⟩ s) := by
  have before : atOrAfter p r.windowStart = false := decide_eq_false (not_le.mpr (of_decide_eq_true early))
  simp only [matchLead, waits, before, Bool.false_and, Bool.false_eq_true, if_false]
  rfl

/-- The head in its window leaves with its run (R35, R37, R39). -/
theorem matchLead_of_window {s : State} {r : TrackRecord} {run left : List TrackRecord}
    (waits : s.tracking.queue = r :: (run ++ left)) (started : atOrAfter s.belt.pos r.windowStart = true)
    (open' : atOrAfter r.windowEnd s.belt.pos = true) (gone : ∀ n ∈ run, signedDist s.belt.pos (n.windowEnd + 1) ≤ 0)
    (stays : ∀ n ∈ left.head?, 0 < signedDist s.belt.pos (n.windowEnd + 1)) :
    matchLead s.belt.pos s = (some r.tote, raiseAll .missedTote
      (run.mapIdx fun i n => ⟨n.tote.tag, n.tote.order, n.tote.source.toNat, BitVec.ofNat 16 (i + 1), s.belt.pos⟩)
      { s with tracking := { s.tracking with queue := left, headDeadline := left.head?.map fun n => n.windowEnd + 1 } }) := by
  simp only [matchLead, waits, started, open', Bool.and_self, if_true, settleHead_eq [] gone stays, List.nil_append]

/-- A leading edge of a calm node, on the node whose pin already has the new level (R16). -/
theorem exec_eyeChange_leading {s : State} (calm : Calm s) (clear : s.eye.state = .clear) {level : Bool}
    (reads : readsBlocked s.eye.polarity level = true) :
    exec (.eyeChange level) s = .next (leadingEdge { s with pins := { s.pins with eye := level } }) := by
  rw [exec_eyeChange calm, reads]
  simp only [eyeChanged, clear]

/-- Settles O6: the match raises UNKNOWN_TOTE, and the tote is handed on as PASS_UNKNOWN. -/
theorem unknownToteIsHandedOn : Obligations.UnknownToteIsHandedOn := by
  intro level s calm clear reads apart p seen frame handed
  have handedOn : ∀ n : NoteBody, matchLead p { s with pins := { s.pins with eye := level } } =
      (none, raise .unknownTote n { s with pins := { s.pins with eye := level } }) →
      exec (.eyeChange level) s = .next (handed frame 0 0 (raise .unknownTote n seen)) := by
    intro n found
    have decided : decideTote none p (raise .unknownTote n seen) = (handed frame 0 0 (raise .unknownTote n seen), .passUnknown) := by
      rw [decideTote_of_passed (.inr (.inl ⟨rfl, rfl⟩)), 
        passTote_of_not_crowded (s := raise .unknownTote n seen) apart, offerHandOff_eq]
      have sender : positionByte (raise .unknownTote n seen).line = positionByte s.line :=
        congrArg (fun k => BitVec.ofNat 8 (Fin.val k)) (raise_samePort .unknownTote n seen).position
      exact congrArg (fun f => (handed f 0 0 (raise .unknownTote n seen), ToteOutcome.passUnknown))
        (congrArg (fun b => ({ frame with source := b } : Frame)) sender)
    rw [exec_eyeChange_leading calm clear reads]
    exact congrArg Host.Outcome.next (leadingEdge_eq found decided)
  exact ⟨fun none => handedOn _ (matchLead_of_empty none), fun r rest waits early => handedOn _ (matchLead_of_early waits early)⟩

/-! ### A matched tote -/

/-- The node in which a matched tote is decided: the head and its run have left the queue, and the Eye Unit has its context (R16, R37). -/
def matchedNode (level : Bool) (s : State) (run left : List TrackRecord) (c : EyeContext) : State :=
  raiseAll .missedTote
    (run.mapIdx fun i n => ⟨n.tote.tag, n.tote.order, n.tote.source.toNat, BitVec.ofNat 16 (i + 1), s.belt.pos⟩)
    { s with
      pins := { s.pins with eye := level }
      eye := ledEye s.belt.pos s.eye c
      tracking := { s.tracking with queue := left, headDeadline := left.head?.map fun n => n.windowEnd + 1 } }

theorem matchedNode_same (level : Bool) (s : State) (run left : List TrackRecord) (c : EyeContext) :
    SameForDecision s (matchedNode level s run left c) := by
  apply SameForDecision.raiseAll
  exact ⟨rfl, rfl, rfl, rfl, rfl⟩

theorem matchedNode_eye (level : Bool) (s : State) (run left : List TrackRecord) (c : EyeContext) :
    (matchedNode level s run left c).eye = ledEye s.belt.pos s.eye c := raiseAll_eye _ _ _

theorem matchedNode_position (level : Bool) (s : State) (run left : List TrackRecord) (c : EyeContext) :
    (matchedNode level s run left c).line.position = s.line.position := (raiseAll_laneSide _ _ _).port.position

/-- A matched leading edge comes to the decision of its tote. -/
theorem exec_eyeChange_matched {s u : State} {level : Bool} {r : TrackRecord} {run left : List TrackRecord} {o : ToteOutcome}
    (calm : Calm s) (clear : s.eye.state = .clear) (reads : readsBlocked s.eye.polarity level = true)
    (waits : s.tracking.queue = r :: (run ++ left)) (started : atOrAfter s.belt.pos r.windowStart = true)
    (lasting : atOrAfter r.windowEnd s.belt.pos = true) (gone : ∀ n ∈ run, signedDist s.belt.pos (n.windowEnd + 1) ≤ 0)
    (stays : ∀ n ∈ left.head?, 0 < signedDist s.belt.pos (n.windowEnd + 1))
    (decided : decideTote (some r.tote) s.belt.pos (matchedNode level s run left (.matched r.tote s.belt.pos o)) = (u, o)) :
    exec (.eyeChange level) s = .next u := by
  rw [exec_eyeChange_leading calm clear reads]
  refine congrArg Host.Outcome.next (leadingEdge_eq (o := o) (matchLead_of_window waits started lasting gone stays) ?_)
  exact (congrArg (decideTote _ _) (raiseAll_with_eye _ _ _ _)).trans decided

/-- A matched tote that is handed on, with the event of its outcome (R82, R89). -/
theorem passTote_matchedNode {s : State} {level : Bool} {run left : List TrackRecord} (k : PassKind) (t : ToteFields) (c : EyeContext)
    (apart : isCrowded s.belt.pos s.diverter = false) :
    passTote k t s.belt.pos (matchedNode level s run left c) =
      (offerHandOff (handOffOf t (handOffRefusals k t.refusals) s) t.tag t.order s.belt.pos
        (raisePassed k t s.belt.pos (matchedNode level s run left c)), k.outcome) := by
  have same := matchedNode_same level s run left c
  have sender : (raisePassed k t s.belt.pos (matchedNode level s run left c)).line.position = s.line.position := by
    rw [← matchedNode_position level s run left c]
    cases k with
    | pass => rfl
    | passUnknown => rfl
    | refused detail value => exact (raise_samePort _ _ _).position
    | late detail l => exact (raise_samePort _ _ _).position
  rw [passTote_of_not_crowded (by rw [same.diverter]; exact apart)]
  simp only [handOffFrame, handOffOf, positionByte, sender]

/-- Settles O7: the decision and the verdict are those of the node before, and the tote is handed on. -/
theorem matchedToteIsHandedOn : Obligations.MatchedToteIsHandedOn := by
  intro level s r run left calm clear reads waits started lasting gone stays apart p seen handed offered
  have same := fun o => matchedNode_same level s run left (.matched r.tote p o)
  have handedOn : ∀ k : PassKind,
      (decision (some r.tote) s = .pass ∧ k = .pass) ∨ (decision (some r.tote) s = .passUnknown ∧ k = .passUnknown) ∨
        (∃ detail value, decision (some r.tote) s = .refused detail value ∧ k = .refused detail value) ∨
        (∃ how l, decision (some r.tote) s = .admitted how ∧ (verdict p s = .lateLead l ∧ k = .late 0 l ∨
          verdict p s = .lateReturn l ∧ k = .late 1 l)) →
      exec (.eyeChange level) s = offered (handOffRefusals k r.tote.refusals) (raisePassed k r.tote p (seen k.outcome)) := by
    intro k decided
    rw [← (same k.outcome).decision, ← (same k.outcome).verdict] at decided
    refine exec_eyeChange_matched calm clear reads waits started lasting gone stays (o := k.outcome) ?_
    rw [decideTote_of_passed decided, Option.getD_some, passTote_matchedNode k r.tote _ apart, offerHandOff_eq]
    rfl
  refine ⟨fun action => handedOn .pass (.inl ⟨decision_of_pass action, rfl⟩),
    fun detail value refused => handedOn (.refused detail value) (.inr (.inr (.inl ⟨detail, value, refused, rfl⟩))),
    fun how l admitted => ⟨fun late => handedOn (.late 0 l) (.inr (.inr (.inr ⟨how, l, admitted, .inl ⟨late, rfl⟩⟩))),
      fun late => handedOn (.late 1 l) (.inr (.inr (.inr ⟨how, l, admitted, .inr ⟨late, rfl⟩⟩)))⟩⟩

/-! ### Crowded totes -/

theorem withEye_of_same {e : Eye} {s : State} (same : s.eye = e) : withEye e s = s := by
  subst same
  rfl

theorem canCarry_iff_room (l : Lane) : canCarry l = true ↔ l.inbound.length < 4 ∧ held l + l.inbound.length < l.zoneCount := by
  simp only [canCarry, Bool.and_eq_true, Bool.not_eq_true', inboundFull_eq_false_iff, decide_eq_true_eq]

/-- A crowded tote is CARRIED or UNTRACKED, and the Eye Unit stands as it was (R81). -/
theorem crowdedTote_eq (k : PassKind) (t : ToteFields) {lead deadline : Pos} {u : State} {l : Lane} (lane : u.lane = l)
    (limit : entryDeadline lead u = deadline) :
    crowdedTote k t lead u =
      if l.inbound.length < 4 ∧ held l + l.inbound.length < l.zoneCount then
        { settleLane (raise .crowded ⟨t.tag, t.order, 0, BitVec.ofNat 16 k.code, lead⟩
            (trim { u with lane := { l with inbound := l.inbound ++ [⟨⟨t, true⟩, deadline⟩] } })) with
          eye := u.eye }
      else raise .crowded ⟨t.tag, t.order, 1, BitVec.ofNat 16 k.code, lead⟩ u := by
  subst lane limit
  have eye : (settleLane (raise .crowded ⟨t.tag, t.order, 0, BitVec.ofNat 16 k.code, lead⟩ (trim (appendInbound t true lead u)))).eye =
      u.eye :=
    ((settleLane_laneSide _).eye).trans (trim_laneSide (appendInbound t true lead u)).eye
  exact if_congr (canCarry_iff_room u.lane) (withEye_of_same eye).symm rfl

/-- Settles O11: the match as for a tote that is handed on, and then the crowded tote. -/
theorem crowdedToteLeavesTheBelt : Obligations.CrowdedToteLeavesTheBelt := by
  intro level s calm clear reads crowded p deadline seen leaves unknown
  have unknownLeaves : ∀ n : NoteBody, matchLead p { s with pins := { s.pins with eye := level } } =
      (none, raise .unknownTote n { s with pins := { s.pins with eye := level } }) →
      exec (.eyeChange level) s = unknown n := by
    intro n found
    have decided : ∀ u, crowdedTote .passUnknown anonymousFields p (raise .unknownTote n (seen (.anonymous p .crowded) s.tracking)) = u →
        decideTote none p (raise .unknownTote n (seen (.anonymous p .crowded) s.tracking)) = (u, .crowded) := by
      rintro u rfl
      exact (decideTote_of_passed (.inr (.inl ⟨rfl, rfl⟩))).trans (passTote_of_crowded crowded)
    rw [exec_eyeChange_leading calm clear reads]
    exact congrArg Host.Outcome.next (leadingEdge_eq found (decided _ (crowdedTote_eq .passUnknown anonymousFields rfl rfl)))
  refine ⟨fun none => unknownLeaves _ (matchLead_of_empty none), fun r rest waits early => unknownLeaves _ (matchLead_of_early waits early),
    fun r run left waits started lasting gone stays => ?_⟩
  intro matched
  have same := matchedNode_same level s run left (.matched r.tote p .crowded)
  have matchedLeaves : ∀ k : PassKind,
      (decision (some r.tote) s = .pass ∧ k = .pass) ∨ (decision (some r.tote) s = .passUnknown ∧ k = .passUnknown) ∨
        (∃ detail value, decision (some r.tote) s = .refused detail value ∧ k = .refused detail value) ∨
        (∃ how l, decision (some r.tote) s = .admitted how ∧ (verdict p s = .lateLead l ∧ k = .late 0 l ∨
          verdict p s = .lateReturn l ∧ k = .late 1 l)) →
      exec (.eyeChange level) s = matched k.code := by
    intro k decided
    rw [← same.decision, ← same.verdict] at decided
    refine exec_eyeChange_matched calm clear reads waits started lasting gone stays (o := .crowded) ?_
    rw [decideTote_of_passed decided, Option.getD_some, passTote_of_crowded (by rw [same.diverter]; exact crowded)]
    exact congrArg (·, ToteOutcome.crowded)
      (crowdedTote_eq k r.tote same.lane (by rw [entryDeadline, same.lane, same.diverter]))
  refine ⟨fun action => matchedLeaves .pass (.inl ⟨decision_of_pass action, rfl⟩),
    fun detail value refused => matchedLeaves (.refused detail value) (.inr (.inr (.inl ⟨detail, value, refused, rfl⟩))),
    fun how l admitted late => ?_⟩
  rcases late with late | late
  · exact matchedLeaves (.late 0 l) (.inr (.inr (.inr ⟨how, l, admitted, .inl ⟨late, rfl⟩⟩)))
  · exact matchedLeaves (.late 1 l) (.inr (.inr (.inr ⟨how, l, admitted, .inr ⟨late, rfl⟩⟩)))

/-! ### Diverted totes -/

theorem signedDist_plus (p : Pos) {n : Nat} (near : n < 8388608) : signedDist p (plus p n) = n := by
  have apart : (plus p n - p).toNat = n := by
    unfold plus
    rw [show p + BitVec.ofNat 24 n - p = BitVec.ofNat 24 n by bv_omega, BitVec.toNat_ofNat]
    omega
  rw [signedDist, apart, if_pos near]

/-- A fire position L before the arrival at the paddle lies E_p - L ahead (R97). -/
theorem signedDist_fire (p : Pos) {arrival lead : Nat} (covered : lead ≤ arrival) (near : arrival < 8388608) :
    signedDist p (minus (plus p arrival) lead) = (arrival - lead : Nat) := by
  have same : minus (plus p arrival) lead = plus p (arrival - lead) := by
    unfold minus plus
    bv_omega
  rw [same, signedDist_plus p (by omega)]

/-- The reservation table after a commitment at a lead position (R79). -/
def committedTable (how : Admit) (order : Ident) (lead : Pos) (a : Admission) : List Reservation :=
  match how with
  | .plain => a.table
  | .onReservation => a.table.filterMap fun e =>
      if e.order ≠ order then some e else if e.zones ≤ 1 then none else some { e with zones := e.zones - 1 }
  | .newReservation n => a.table ++ [⟨order, n, plus lead a.span⟩]

/-- A reservation made at P does not lapse at once (R85). -/
theorem commitReservation_eq (how : Admit) (t : ToteFields) {lead : Pos} {s : State} (now : s.belt.pos = lead)
    (range : AdmissionInRange s.admission) :
    commitReservation how t lead s =
      { s with admission := { s.admission with table := committedTable how t.order lead s.admission } } := by
  cases how with
  | plain => rfl
  | onReservation =>
    have entry : ∀ e : Reservation, (if e.order ≠ t.order then some e else if e.zones ≤ 1 then none
        else some { e with zones := e.zones - 1 }) =
        if e.order = t.order then (if e.zones ≤ 1 then none else some { e with zones := e.zones - 1 }) else some e :=
      fun e => ite_not _ _ _
    simp only [commitReservation, useReservation, committedTable, entry]
  | newReservation n =>
    obtain ⟨-, least, most⟩ := range
    have later : reachedWhenSet s.belt.pos (plus lead s.admission.span) = false := by
      rw [Bool.eq_false_iff, ne_eq, reachedWhenSet_iff, now, signedDist_plus lead (by omega)]
      omega
    exact if_neg (by rw [later]; exact Bool.false_ne_true)

theorem verdict_arm {lead fire : Pos} {s : State} (timing : verdict lead s = .arm fire) :
    throwLead s ≤ s.diverter.geometry.eyeToPaddle ∧ fire = firePosition lead s := by
  cases state : s.diverter.state <;> simp only [verdict, state] at timing
  case rest =>
    split_ifs at timing with late
    exact ⟨not_lt.mp late, (Verdict.arm.inj timing).symm⟩
  case fault =>
    split_ifs at timing with late
    exact ⟨not_lt.mp late, (Verdict.arm.inj timing).symm⟩
  case armed => cases timing
  case throwing => cases timing
  case holding => cases timing
  case returning =>
    cases clear : s.diverter.clear <;> simp only [clear] at timing <;> split_ifs at timing

theorem verdict_rethrow {lead fire : Pos} {s : State} (timing : verdict lead s = .rethrow fire) : fire = firePosition lead s := by
  cases state : s.diverter.state <;> simp only [verdict, state] at timing
  case rest => split_ifs at timing
  case fault => split_ifs at timing
  case armed => cases timing
  case throwing => cases timing
  case holding => cases timing
  case returning =>
    cases clear : s.diverter.clear <;> simp only [clear] at timing <;> split_ifs at timing <;>
      exact (Verdict.rethrow.inj timing).symm

/-- A fire position set at P: the throw starts at once when L is the whole way to the paddle (R100, R102). -/
theorem enterArmed_of_fire {d : Diverter} {p : Pos} {lead : Nat} (covered : lead ≤ d.geometry.eyeToPaddle)
    (range : GeometryInRange d.geometry) :
    enterArmed p { d with fire := some (minus (plus p d.geometry.eyeToPaddle) lead) } =
      if lead = d.geometry.eyeToPaddle then
        { d with fire := none, state := .throwing, phase := some ⟨.throwing, 0, d.geometry.throwTime, 0⟩ }
      else { d with fire := some (minus (plus p d.geometry.eyeToPaddle) lead), state := .armed, phase := none } := by
  obtain ⟨short, -⟩ := range
  refine if_congr ?_ rfl rfl
  rw [reachedWhenSet_iff, signedDist_fire p covered (by omega)]
  omega

theorem decideTote_of_diverted {t : ToteFields} {lead : Pos} {s : State} {how : Admit} {v : Verdict}
    (admitted : decision (some t) s = .admitted how) (timing : verdict lead s = v)
    (inTime : (∃ fire, v = .arm fire) ∨ v = .join ∨ ∃ fire, v = .rethrow fire) :
    decideTote (some t) lead s = (commitDivert v how t lead s, .diverted) := by
  rcases inTime with ⟨fire, rfl⟩ | rfl | ⟨fire, rfl⟩ <;> simp only [decideTote, admitted, admitTote, timing, Option.getD_some]

/-- A commitment as one update of the diverter, the table and the inbound list (R79, R80). -/
theorem commitDivert_eq (v : Verdict) (how : Admit) (t : ToteFields) {p : Pos} {u : State} {d : Diverter} {a : Admission} {l : Lane}
    (now : u.belt.pos = p) (drive : u.diverter = d) (admission : u.admission = a) (lane : u.lane = l) (range : AdmissionInRange a)
    (kept : (commitVerdict v p d).geometry = d.geometry) :
    commitDivert v how t p u = settleLane { u with
      diverter := commitVerdict v p d
      admission := { a with table := committedTable how t.order p a }
      lane := { l with
        inbound := l.inbound ++ [⟨⟨t, false⟩, plus (plus p d.geometry.eyeToPaddle) l.entryDistance⟩] } } := by
  subst now drive admission lane
  have inbound : appendInbound t false u.belt.pos { u with diverter := commitVerdict v u.belt.pos u.diverter } =
      { u with
        diverter := commitVerdict v u.belt.pos u.diverter
        lane := { u.lane with inbound := u.lane.inbound ++
          [⟨⟨t, false⟩, plus (plus u.belt.pos u.diverter.geometry.eyeToPaddle) u.lane.entryDistance⟩] } } := by
    simp only [appendInbound, entryDeadline, kept]
  rw [commitDivert, inbound]
  exact congrArg settleLane (commitReservation_eq how t rfl range)

/-- A lane that settles after a commitment leaves the Eye Unit as it stands. -/
theorem settleLane_committed {u : State} {e : Eye} (same : u.eye = e) (d : Diverter) (a : Admission) (l : Lane) :
    settleLane { u with diverter := d, admission := a, lane := l } =
      { settleLane { u with diverter := d, admission := a, lane := l } with eye := e } := by
  have kept : (settleLane { u with diverter := d, admission := a, lane := l }).eye = u.eye := (settleLane_laneSide _).eye
  exact (withEye_of_same (kept.trans same)).symm

/-- Settles O8: the admission of the node before is carried out on the matched node. -/
theorem divertIsCommitted : Obligations.DivertIsCommitted := by
  intro level s r run left how calm clear reads waits started lasting gone stays geometry admission admitted p g arrival eye seen table
    committed
  have same := matchedNode_same level s run left (.matched r.tote p .diverted)
  have node : matchedNode level s run left (.matched r.tote p .diverted) = seen := rfl
  have seenEye : seen.eye = eye := matchedNode_eye level s run left (.matched r.tote p .diverted)
  have tableEq : committedTable how r.tote.order p s.admission = table := by cases how <;> rfl
  have diverts : ∀ v, verdict p s = v → ((∃ fire, v = .arm fire) ∨ v = .join ∨ ∃ fire, v = .rethrow fire) →
      exec (.eyeChange level) s = committed (commitVerdict v p s.diverter) := by
    intro v timing inTime
    refine exec_eyeChange_matched calm clear reads waits started lasting gone stays (o := .diverted) ?_
    rw [decideTote_of_diverted ((same.decision _).trans admitted) ((same.verdict _).trans timing) inTime,
      commitDivert_eq v how r.tote (congrArg Belt.pos same.belt) same.diverter same.admission same.lane admission
        (commitVerdict_geometry v p s.diverter), tableEq, node]
    exact congrArg (·, ToteOutcome.diverted) (settleLane_committed seenEye _ _ _)
  refine ⟨fun fire timing => ?_, fun timing => diverts .join timing (.inr (.inl rfl)), fun fire timing => ?_⟩
  · obtain ⟨covered, rfl⟩ := verdict_arm timing
    have armed : commitVerdict (.arm (firePosition p s)) p s.diverter = if throwLead s = g.eyeToPaddle then
        { s.diverter with fire := none, state := .throwing, phase := some ⟨.throwing, 0, g.throwTime, 0⟩ }
      else { s.diverter with fire := some (minus arrival (throwLead s)), state := .armed, phase := none } :=
      enterArmed_of_fire covered geometry
    have diverted := diverts _ timing (.inl ⟨_, rfl⟩)
    rwa [armed] at diverted
  · obtain rfl := verdict_rethrow timing
    have diverted := diverts _ timing (.inr (.inr ⟨_, rfl⟩))
    exact diverted

end Sys2Proof.Machine
end

section
/-! SUPPORT. The trim and the rescan as the manual states them: which entries go and which one is reduced, the zones as their eyes read, and
the records that leave the inbound list (R88, R128). -/

namespace Sys2Proof.Machine

/-! ### The trim -/

theorem eq_of_mem_zip_self {α : Type} {p : α × α} {l : List α} (among : p ∈ l.zip l) : p.1 = p.2 := by
  induction l with
  | nil => cases among
  | cons a l ih =>
    rcases List.mem_cons.mp among with rfl | later
    · rfl
    · exact ih later

/-- How a trim divides a table, oldest first: `kept` stays whole, `part` is the newest entry left if it was reduced, with the zones taken from
it, and `gone` went, newest first (R88). -/
structure TrimParts (kept : List Reservation) (part : List (Reservation × Nat)) (table left gone : List Reservation) : Prop where
  single : part.length ≤ 1
  before : table = kept ++ part.map (·.1) ++ gone.reverse
  after : left = kept ++ part.map fun q => { q.1 with zones := q.1.zones - q.2 }

theorem trimEntries_parts (n : Nat) (table : List Reservation) :
    ∃ kept part, TrimParts kept part table (trimEntries n table.reverse).1.reverse (trimEntries n table.reverse).2 := by
  obtain ⟨rest, split, left⟩ := trimEntries_shape n table.reverse
  have divided : table = rest.reverse ++ (trimEntries n table.reverse).2.reverse := by
    rw [← List.reverse_append, ← split, List.reverse_reverse]
  rcases left with whole | ⟨r, rs, m, rfl, -, reduced⟩
  · exact ⟨rest.reverse, [], Nat.zero_le _, by simpa using divided, by simp [whole]⟩
  · exact ⟨rs.reverse, [(r, m)], le_rfl, by simpa using divided, by simp [reduced]⟩

section
variable {kept : List Reservation} {part : List (Reservation × Nat)} {table left gone : List Reservation}
  (parts : TrimParts kept part table left gone)
include parts

theorem TrimParts.length : left.length = (kept ++ part.map (·.1)).length := by
  rw [parts.after]
  simp

/-- Of the entries left, none has another order or expiry. -/
theorem TrimParts.keys : left.map (fun r => (r.order, r.expiry)) <+: table.map (fun r => (r.order, r.expiry)) := by
  refine ⟨gone.reverse.map fun r => (r.order, r.expiry), ?_⟩
  rw [parts.before, parts.after]
  simp

theorem TrimParts.dropLast : left.dropLast <+: table := by
  obtain ⟨single, before, after⟩ := parts
  subst before after
  cases part with
  | nil =>
    simp only [List.map_nil, List.append_nil]
    exact (List.dropLast_prefix kept).trans (List.prefix_append _ _)
  | cons q rest =>
    obtain rfl : rest = [] := List.eq_nil_of_length_eq_zero (by simpa using single)
    simp only [List.map_cons, List.map_nil, List.dropLast_concat, List.append_assoc]
    exact List.prefix_append _ _

/-- No entry grows. -/
theorem TrimParts.zones : ∀ p ∈ left.zip table, p.1.zones ≤ p.2.zones := by
  obtain ⟨single, before, after⟩ := parts
  subst before after
  intro p among
  rw [List.append_assoc, List.zip_append rfl, List.mem_append] at among
  rcases among with whole | among
  · exact (congrArg Reservation.zones (eq_of_mem_zip_self whole)).le
  · cases part with
    | nil => cases among
    | cons q rest =>
      obtain rfl : rest = [] := List.eq_nil_of_length_eq_zero (by simpa using single)
      obtain rfl : p = ({ q.1 with zones := q.1.zones - q.2 }, q.1) := by simpa using among
      exact Nat.sub_le _ _

theorem TrimParts.gone_eq : (table.drop left.length).reverse = gone := by
  rw [parts.length, parts.before, List.drop_left, List.reverse_reverse]

end

/-- Settles O26: the parts of the table, with the zones taken. -/
theorem trimTakesTheNewest : Obligations.TrimTakesTheNewest := by
  intro s one t left
  obtain ⟨kept, part, parts⟩ := trimEntries_parts (roomSum s - s.lane.zoneCount) s.admission.table
  have table : left = (trimEntries (roomSum s - s.lane.zoneCount) s.admission.table.reverse).1.reverse :=
    congrArg Admission.table (trim_table s)
  rw [← table] at parts
  have onward : TableOnward s.admission.table left := trim_tableOnward s
  refine ⟨?_, parts.keys, parts.dropLast, fun r among => ?_, parts.zones, ?_⟩
  · show zonesOf left = zonesOf s.admission.table - _
    rw [table, zonesOf_reverse, trimEntries_zones, zonesOf_reverse]
  · obtain ⟨q, before, -, -, least⟩ := onward.entries r among
    exact least (one q before)
  · rw [parts.gone_eq, table]
    rfl

/-! ### The rescan -/

/-- The records that a rescan removes from the inbound list: none while a reservation is left (R128). -/
def excess (s : State) : Nat :=
  if (trim s).admission.table = [] then held s.lane + s.lane.inbound.length - s.lane.zoneCount else 0

theorem dropExcess_trim (s : State) :
    dropExcess (trim s) = raiseAll .entryMissed ((s.lane.inbound.take (excess s)).map (missedEntryNote s.belt.pos 1))
      { trim s with lane := { s.lane with inbound := s.lane.inbound.drop (excess s) } } := by
  obtain ⟨lane, -⟩ := trim_lane s
  have pos : (trim s).belt.pos = s.belt.pos := congrArg Belt.pos (trim_laneSide s).belt
  unfold excess
  rcases dropExcess_cases (trim s) with ⟨same, left⟩ | ⟨none, same⟩
  · rw [same, if_neg left, List.take_zero, List.drop_zero, ← lane]
    rfl
  · rw [same, if_pos none, lane, pos]

/-- The room after a rescan that has removed a record is full (R128). -/
theorem roomSum_dropExcess {s : State} (removed : s.lane.inbound.drop (excess s) ≠ s.lane.inbound) :
    roomSum (dropExcess (trim s)) = s.lane.zoneCount := by
  have some : excess s ≠ 0 := fun zero => removed (by rw [zero, List.drop_zero])
  have none : (trim s).admission.table = [] := by
    by_contra left
    exact some (if_neg left)
  have count : excess s = held s.lane + s.lane.inbound.length - s.lane.zoneCount := if_pos none
  have zones := held_le s.lane
  have same : held { s.lane with inbound := s.lane.inbound.drop (excess s) } = held s.lane := held_of_zones rfl rfl
  rw [dropExcess_trim]
  simp only [roomSum, raiseAll_lane, raiseAll_admission, reserved_eq, none, zonesOf_nil, List.length_drop, same]
  omega

/-- Settles O27: the trim and the removals on the lane that was set from its eyes. -/
theorem rescanReadsTheEyes : Obligations.RescanReadsTheEyes := by
  intro s low high t found n
  have eyes : found = { s with lane := rescanZones s } := by
    have each : ∀ i : Fin 8, (if i.val < s.lane.zoneCount ∧ zoneBlocked s (i.val + 1) = true then
        (⟨.held, some ((zone s.lane (i.val + 1)).record.getD ⟨anonymousFields, false⟩), false, none⟩ : Zone) else emptyZone) =
        if i.val < s.lane.zoneCount then rescanZone (zoneBlocked s (i.val + 1)) (zone s.lane (i.val + 1)) else emptyZone := fun i => by
      rw [ite_and]
      rfl
    simp only [found, each]
    rfl
  have rescanned : t = dropExcess (trim found) := by rw [eyes]; rfl
  have whole := dropExcess_trim found
  rw [← rescanned] at whole
  have lane : t.lane = { found.lane with inbound := s.lane.inbound.drop (excess found) } := by
    rw [whole, raiseAll_lane]
  have table : t.admission.table = (trim found).admission.table := by rw [whole, raiseAll_admission]
  have count : excess found = n := by simp only [n, table]; rfl
  refine ⟨?_, fun k low' high' => ?_, ?_, ?_, ?_, ?_, ?_, fun left => ?_, fun removed => ?_⟩
  · rw [← count]
    exact whole
  · have same : zone t.lane k = zone found.lane k := zone_congr (by rw [lane]) k
    rw [same, eyes]
    exact (zone_rescanZones s low' (by omega)).trans (if_pos high')
  · rw [lane]
  · rw [lane]
  · rw [lane]
  · have kept : roomSum t ≤ t.lane.zoneCount := rescan_roomKept s
    rw [lane] at kept
    exact kept
  · rw [lane]
    exact List.drop_suffix _ _
  · rw [lane, excess, if_neg (by rwa [← table]), List.drop_zero]
  · rw [rescanned]
    exact roomSum_dropExcess (s := found) (by rw [lane] at removed; exact removed)

end Sys2Proof.Machine
end

section
/-! SUPPORT. The READY lamp of a lane that has evaluated it, entries at zone 1 with what the lane does after them, and jams (R118, R119, R122,
R124 to R127, R142). -/

namespace Sys2Proof.Machine

/-! ### The lamp -/

theorem evalReady_lampTrue (s : State) : LampTrue (evalReady s) := by
  obtain ⟨lane, -, counter⟩ := evalReady_keeps s
  show (evalReady s).counter.readyLit = readyHolds (evalReady s).lane
  rw [lane, counter]

/-- A lamp that shows the lane already is left alone (R142). -/
theorem evalReady_of_lampTrue {s : State} (lit : LampTrue s) : evalReady s = s := by
  have same : { s with counter := { s.counter with readyLit := readyHolds s.lane } } = s := by rw [← lit]
  have unchanged : ¬ (readyHolds s.lane && !s.counter.readyLit) = true := by rw [lit, Bool.and_not_self]; exact Bool.false_ne_true
  unfold evalReady
  simp only [same]
  exact if_neg unchanged

/-- A lane whose lamp must be dark gets a dark lamp, and no note (R142). -/
theorem evalReady_of_dark {s : State} (dark : readyHolds s.lane = false) :
    evalReady s = { s with counter := { s.counter with readyLit := false } } := by
  unfold evalReady
  simp only [dark]
  rfl

theorem readyHolds_of_not_running {l : Lane} (stopped : l.state ≠ .running) : readyHolds l = false := by
  simp [readyHolds, stopped]

theorem readyHolds_of_not_held {l : Lane} (away : (zone l l.zoneCount).state ≠ .held) : readyHolds l = false := by
  simp [readyHolds, away]

/-! ### Entries -/

/-- The record that an entry brings: that of the oldest inbound record, or an anonymous one (R118). -/
def enteringRecord (l : Lane) : LaneRecord := (l.inbound.head?.map fun r => r.record).getD ⟨anonymousFields, false⟩

theorem enterZone1_lane_eq (s : State) :
    (enterZone1 s).lane =
      { putZone 1 ⟨.held, some (enteringRecord s.lane), false, none⟩ s.lane with inbound := s.lane.inbound.tail } := by
  cases waits : s.lane.inbound with
  | cons r rest => rw [enterZone1_lane waits, enteringRecord, waits]; rfl
  | nil =>
    have record : enteringRecord s.lane = anonymousRecord := by rw [enteringRecord, waits]; rfl
    simp only [enterZone1, waits, evalReady_lane, (trim_lane _).1, raise_lane, record, List.tail_nil]
    rw [← show (putZone 1 ⟨.held, some anonymousRecord, false, none⟩ s.lane).inbound = [] from waits]

theorem enterZone1_lampTrue (s : State) : LampTrue (enterZone1 s) := by
  unfold enterZone1
  split
  · exact evalReady_lampTrue _
  · exact evalReady_lampTrue _

theorem zone1_enterZone1 (s : State) :
    zone (enterZone1 s).lane 1 = ⟨.held, some (enteringRecord s.lane), false, none⟩ := by
  rw [enterZone1_lane_eq]
  exact zone_putZone_self s.lane _ le_rfl (by decide)

theorem zone_enterZone1 (s : State) {k : Nat} (above : 2 ≤ k) : zone (enterZone1 s).lane k = zone s.lane k := by
  rw [enterZone1_lane_eq]
  exact zone_putZone_of_ne s.lane _ (by omega) (by omega) le_rfl

/-- After an entry into a lane at rest the only transfer that can be due is that from zone 1 (R122). -/
theorem transferDue_enterZone1 {s : State} (rests : LaneRests s) {k : Nat} (above : 2 ≤ k) :
    transferDue (enterZone1 s).lane k = false := by
  obtain ⟨-, -, advance⟩ := rests
  rw [Bool.eq_false_iff, ne_eq, transferDue_iff, zone_enterZone1 s above, zone_enterZone1 s (by omega), enterZone1_lane_eq]
  rintro ⟨free, inside, due⟩
  exact advance free k inside (by omega) due

/-- With zone 2 not EMPTY the record stays in zone 1. -/
theorem laneRests_enterZone1 {s : State} (rests : LaneRests s) (blocked : (zone s.lane 2).state ≠ .empty) : LaneRests (enterZone1 s) := by
  have first := zone1_enterZone1 s
  refine ⟨by rw [first]; nofun, by rw [first]; nofun, fun free k inside low ⟨stands, empty⟩ => ?_⟩
  rcases Nat.lt_or_eq_of_le low with above | rfl
  · have due := (transferDue_iff (enterZone1 s).lane k).mpr ⟨free, inside, stands, empty⟩
    rw [transferDue_enterZone1 rests above] at due
    exact Bool.false_ne_true due
  · rw [zone_enterZone1 s le_rfl] at empty
    exact blocked empty

/-- One rule of the lane, after which it is at rest. -/
theorem settleLane_of_one_rule {s t : State} (rule : laneRule s = some t) (rests : LaneRests t) : settleLane s = t := by
  have still : laneRules 127 t = t := by
    show laneRules (126 + 1) t = t
    rw [laneRules, (laneRule_eq_none_iff t).mpr rests]
  show laneRules (127 + 1) s = t
  rw [laneRules, rule]
  exact still

theorem zoneBlocked_congr {s t : State} (pins : t.pins = s.pins) (polarity : t.lane.polarity = s.lane.polarity) (k : Nat) :
    zoneBlocked t k = zoneBlocked s k := by
  rw [zoneBlocked, zoneBlocked, pins, polarity]

/-- A transfer towards a clear eye starts, and the record stays in its zone (R122). -/
theorem startTransfer_of_clear {s : State} {k : Nat} (clear : zoneBlocked s (k + 1) = false) :
    startTransfer k s = evalReady { s with
      lane := putZone (k + 1) { zone s.lane (k + 1) with state := .filling }
        (putZone k { zone s.lane k with
          state := .passing, partEnded := !zoneBlocked s k, timer := some ⟨0, s.lane.transferLimit * 10⟩ } s.lane) } :=
  if_neg (by rw [clear]; exact Bool.false_ne_true)

/-- With zone 2 EMPTY and clear the record starts on its way at once, and nothing more (R122). -/
theorem settleLane_enterZone1 {s : State} (rests : LaneRests s) (free : s.lane.state ≠ .jammed) (several : 2 ≤ s.lane.zoneCount)
    (empty : (zone s.lane 2).state = .empty) (here : zoneBlocked s 1 = true) (clear : zoneBlocked s 2 = false) :
    settleLane (enterZone1 s) = { enterZone1 s with
      lane := putZone 2 { zone s.lane 2 with state := .filling }
        (putZone 1 ⟨.passing, some (enteringRecord s.lane), false, some ⟨0, s.lane.transferLimit * 10⟩⟩ (enterZone1 s).lane) } := by
  set t := enterZone1 s with entered
  have side : LaneSide s t := enterZone1_laneSide s
  have first : zone t.lane 1 = ⟨.held, some (enteringRecord s.lane), false, none⟩ := zone1_enterZone1 s
  have others : ∀ k, 2 ≤ k → zone t.lane k = zone s.lane k := fun k above => zone_enterZone1 s above
  have state : t.lane.state = s.lane.state := by rw [entered, enterZone1_lane_eq]; rfl
  set moved : Lane := putZone 2 { zone s.lane 2 with state := .filling }
    (putZone 1 ⟨.passing, some (enteringRecord s.lane), false, some ⟨0, s.lane.transferLimit * 10⟩⟩ t.lane) with moves
  have movedFirst : zone moved 1 = ⟨.passing, some (enteringRecord s.lane), false, some ⟨0, s.lane.transferLimit * 10⟩⟩ := by
    rw [moves, zone_putZone_of_ne _ _ le_rfl (by decide) (by decide), zone_putZone_self _ _ le_rfl (by decide)]
  have movedSecond : zone moved 2 = { zone s.lane 2 with state := .filling } := zone_putZone_self _ _ (by decide) (by decide)
  have movedOthers : ∀ k, 3 ≤ k → zone moved k = zone s.lane k := fun k above => by
    rw [moves, zone_putZone_of_ne _ _ (by omega) (by omega) (by decide), zone_putZone_of_ne _ _ (by omega) (by omega) le_rfl,
      others k (by omega)]
  have due : dueZone t.lane t.lane.zoneCount = some 1 := by
    refine dueZone_eq_some le_rfl (by rw [side.zoneCount]; omega) ?_ fun j above _ => transferDue_enterZone1 rests above
    rw [transferDue_iff, state, side.zoneCount, first, others 2 le_rfl]
    exact ⟨free, several, rfl, empty⟩
  have rule : laneRule t = some (startTransfer 1 t) := laneRule_of_due due (by rw [first]; nofun) (by rw [first]; nofun)
  have lamp : readyHolds moved = readyHolds t.lane := by
    rcases Nat.lt_or_eq_of_le several with more | two
    · refine readyHolds_congr rfl rfl ?_ fun k low => ?_
      · rw [side.zoneCount, movedOthers _ more, others _ several]
      · rcases Nat.lt_or_eq_of_le low with above | rfl
        · rcases Nat.lt_or_eq_of_le above with high | rfl
          · rw [movedOthers k high, others k above]
          · rw [movedSecond, others 2 le_rfl]
        · rw [movedFirst, first]
    · have last : moved.zoneCount = 2 := side.zoneCount.trans two.symm
      have last' : t.lane.zoneCount = 2 := side.zoneCount.trans two.symm
      rw [readyHolds_of_not_held (by rw [last, movedSecond]; nofun),
        readyHolds_of_not_held (by rw [last', others 2 le_rfl, empty]; nofun)]
  have starts : startTransfer 1 t = { t with lane := moved } := by
    have lit : LampTrue { t with lane := moved } := (enterZone1_lampTrue s).trans lamp.symm
    have blocked := zoneBlocked_congr side.pins side.polarity
    have same : putZone 2 { zone t.lane 2 with state := .filling }
        (putZone 1 { zone t.lane 1 with
          state := .passing, partEnded := !zoneBlocked t 1, timer := some ⟨0, t.lane.transferLimit * 10⟩ } t.lane) = moved := by
      rw [first, others 2 le_rfl, blocked 1, here, side.transferLimit]
      rfl
    exact (startTransfer_of_clear ((blocked 2).trans clear)).trans
      ((congrArg (fun l => evalReady { t with lane := l }) same).trans (evalReady_of_lampTrue lit))
  rw [starts] at rule
  refine settleLane_of_one_rule rule ⟨?_, ?_, fun _ k inside low ⟨stands, vacant⟩ => ?_⟩
  · show (zone moved 1).state = .empty → _
    rw [movedFirst]
    nofun
  · show (zone moved 1).state = .filling → _
    rw [movedFirst]
    nofun
  · obtain ⟨-, -, advance⟩ := rests
    replace stands : (zone moved k).state = .held := stands
    replace vacant : (zone moved (k + 1)).state = .empty := vacant
    obtain rfl | rfl | above : k = 1 ∨ k = 2 ∨ 3 ≤ k := by omega
    · rw [movedFirst] at stands
      cases stands
    · rw [movedSecond] at stands
      cases stands
    · rw [movedOthers k above] at stands
      rw [movedOthers _ (by omega)] at vacant
      exact advance free k (inside.trans_eq side.zoneCount) low ⟨stands, vacant⟩

/-- Settles O33: a block at zone 1 is an entry, and the lane advances after it. -/
theorem entryTakesTheOldest : Obligations.EntryTakesTheOldest := by
  intro level s calm several free changes blocks expects read record holds entered
  have entry : enterZone1 read = entered := by
    cases waits : s.lane.inbound with
    | cons r rest => simp only [entered, record, holds, enterZone1, read, waits]; rfl
    | nil => simp only [entered, record, holds, enterZone1, read, waits]; rfl
  have acts : exec (.zoneEyeChange 0 level) s = .next (settleLane (enterZone1 read)) := by
    have open1 : zone1Blocked read = enterZone1 read := by
      rcases expects with state | state <;> simp only [zone1Blocked, show (zone read.lane 1).state = _ from state]
    rw [exec_zoneEyeChange_acts calm (.inl changes), blocks]
    exact (congrArg Host.Outcome.next (zoneChanged_of_free (s := withZoneEye 0 level s) free (show 1 ≤ s.lane.zoneCount by omega) true)).trans
      (congrArg (fun t => Host.Outcome.next (settleLane t)) open1)
  refine ⟨entry ▸ acts, fun rests busy => ?_, fun rests empty clear => ?_⟩
  · rw [acts, settleLane_of_rests (laneRests_enterZone1 (s := read) rests busy), entry]
  · have here : zoneBlocked read 1 = true := by simpa [zoneBlocked, read, Vector.getD] using blocks
    have clear' : zoneBlocked read 2 = false := by simpa [zoneBlocked, read, Vector.getD] using clear
    rw [acts, settleLane_enterZone1 (s := read) rests free several empty here clear', entry]
    rfl

/-! ### Jams -/

/-- A node whose lane has jammed: the timers are stopped, any release is ended and the lamp is dark (R127, R141). -/
def jammedNode (s : State) : State :=
  { s with
    lane := { s.lane with
      state := .jammed, zones := s.lane.zones.map fun z => { z with timer := none }, discharge := none, lateTimeout := false }
    counter := { s.counter with release := .idle, group := none, count := 0, pressWaits := false, readyLit := false } }

/-- The LANE_JAM note of a record, or with tag 0 and order 0 (R127). -/
def jamNote (s : State) (detail : Nat) (record : Option LaneRecord) (k : Nat) : NoteBody :=
  ⟨(record.map fun r => r.tote.tag).getD 0, (record.map fun r => r.tote.order).getD 0, detail, BitVec.ofNat 16 k, s.belt.pos⟩

theorem jam_eq (detail : Nat) (record : Option LaneRecord) (k : Nat) (s : State) :
    jam detail record k s = raise .laneJam (jamNote s detail record k) (jammedNode s) := by
  have dark : evalReady { s with lane := { stopTimers s.lane with state := .jammed }, counter := quietEnd s.counter } = jammedNode s :=
    evalReady_of_dark (readyHolds_of_not_running (l := { stopTimers s.lane with state := .jammed })
      (show LaneState.jammed ≠ .running by decide))
  unfold jam
  rw [dark]
  cases record <;> rfl

/-- A lane at rest that jams is still at rest: nothing moves in JAMMED (R127). -/
theorem settleLane_jam {s : State} (rests : LaneRests s) (detail : Nat) (record : Option LaneRecord) (k : Nat) :
    settleLane (jam detail record k s) = raise .laneJam (jamNote s detail record k) (jammedNode s) := by
  rw [jam_eq]
  refine settleLane_of_rests (LaneRests.congr (s := s) rests (fun j low => ?_) rfl rfl fun free => absurd rfl free)
  have stopped : (zone (stopTimers s.lane) j).state = (zone s.lane j).state := by rw [zone_stopTimers s.lane low]
  exact stopped

/-- A command of a lane timer at a calm node. -/
theorem exec_transferTimeout {s : State} (calm : Calm s) (i : Fin 8) :
    exec (.transferTimeout i) s = .next (transferRunsOut (i.val + 1) s) := by
  show Host.Outcome.next (transferRunsOut (i.val + 1) (settle s)) = _
  rw [settle_of_calm calm]

theorem exec_dischargeTimeout {s : State} (calm : Calm s) : exec .dischargeTimeout s = .next (dischargeRunsOut s) := by
  show Host.Outcome.next (dischargeRunsOut (settle s)) = _
  rw [settle_of_calm calm]

theorem transferRecord_eq (l : Lane) (k : Nat) :
    transferRecord l k = if (zone l k).record.isSome then (zone l k).record else (zone l (k + 1)).record := by
  unfold transferRecord
  cases (zone l k).record <;> rfl

/-- Settles O34: each cause is a jam of a lane at rest, and a JAMMED lane takes none. -/
theorem jamsStopTheLane : Obligations.JamsStopTheLane := by
  intro s calm rests jammed note pin
  refine ⟨fun free several => ⟨fun level blocks busy => ?double, fun i level low inside blocks changes empty => ?unexpected,
    fun i runs => ?transfer, fun due => ?discharge, fun stopped taken => ?none⟩, fun stopped =>
    ⟨fun i level => exec_zoneEyeChange_jammed calm stopped i level, fun i => ?_, ?_⟩⟩
  case double =>
    have jams : zone1Blocked (withZoneEye 0 level s) = jam 0 (zone s.lane 1).record 1 (withZoneEye 0 level s) := by
      rcases busy with state | state <;> simp only [zone1Blocked, state]
    have busy' : awaitsTote (zone s.lane ((0 : Fin 8).val + 1)) = false := by
      rcases busy with state | state
      · exact awaitsTote_of_held state
      · exact awaitsTote_of_passing state
    rw [exec_zoneEyeChange_acts calm (.inr busy'), blocks]
    refine congrArg Host.Outcome.next ((zoneChanged_of_free (s := withZoneEye 0 level s) free
      (show 1 ≤ s.lane.zoneCount by omega) true).trans ?_)
    exact (congrArg settleLane jams).trans (settleLane_jam (s := withZoneEye 0 level s) rests _ _ _)
  case unexpected =>
    have above : i.val + 1 ≠ 1 := by omega
    rw [exec_zoneEyeChange_acts calm (.inl changes), blocks]
    refine congrArg Host.Outcome.next ((zoneChanged_of_free (s := withZoneEye i level s) free inside true).trans ?_)
    rw [if_pos rfl, if_neg above]
    exact (congrArg settleLane (zoneKBlocked_of_empty (s := withZoneEye i level s) empty)).trans
      (settleLane_jam (s := withZoneEye i level s) rests _ _ _)
  case transfer =>
    rw [exec_transferTimeout calm, transferRunsOut, if_neg (by simp [calm.1, free, Option.isSome_iff_ne_none.mp runs]),
      settleLane_jam rests, transferRecord_eq]
    rfl
  case discharge =>
    have may : timeoutMayCome s.lane = true := by simpa [timeoutMayCome] using due
    rw [exec_dischargeTimeout calm, dischargeRunsOut, if_neg (by simp [calm.1, free, may]), dischargeJams, settleLane_jam rests]
    rfl
  case none =>
    have mayNot : timeoutMayCome s.lane = false := by simp [timeoutMayCome, stopped, taken]
    rw [exec_dischargeTimeout calm, dischargeRunsOut, if_pos (by simp [mayNot])]
  · rw [exec_transferTimeout calm, transferRunsOut, if_pos (by simp [stopped])]
  · rw [exec_dischargeTimeout calm, dischargeRunsOut, if_pos (by simp [stopped])]

end Sys2Proof.Machine
end

section
/-! SUPPORT. Releases: the request and its refusal, the discharge with its completion, and the WAITING watch over zone Z, each as one update
(R126, R136 to R141). -/

namespace Sys2Proof.Machine

/-! ### Requests -/

/-- The code of the test that refuses a request (R137). -/
theorem requestRefusal_code (l : Lane) :
    (requestRefusal l).map RefuseReason.code =
      if l.state = .jammed then some 1 else if l.state = .paused then some 0
      else if (zone l l.zoneCount).state ≠ .held then some 2
      else if l.mode = .order ∧ frontComplete l = false then some 3 else none := by
  unfold requestRefusal
  cases state : l.state with
  | jammed => rfl
  | paused => rfl
  | running =>
    simp only [reduceCtorEq, if_false]
    split
    · rfl
    · split <;> rfl

theorem requestRefusal_of_empty {l : Lane} (running : l.state = .running) (empty : (zone l l.zoneCount).state ≠ .held) :
    requestRefusal l = some .empty := by
  simp only [requestRefusal, running, if_pos empty]

theorem frontTags_eq (l : Lane) :
    frontTags l = (((frontRecord l).map fun r => r.tote.tag).getD 0, ((frontRecord l).map fun r => r.tote.order).getD 0) := by
  unfold frontTags
  cases frontRecord l <;> rfl

/-- The group order of a release that starts (R137). -/
theorem groupOf_eq (l : Lane) :
    groupOf l = if l.mode = .order then ((frontRecord l).filter multiTote).map fun r => r.tote.order else none := by
  unfold groupOf
  cases mode : l.mode with
  | tote => cases frontRecord l <;> rfl
  | order =>
    cases frontRecord l with
    | none => rfl
    | some r => cases multi : multiTote r <;> simp [multi]

/-! ### The discharge -/

theorem putZone_putZone_self (k : Nat) (a b : Zone) (l : Lane) : putZone k a (putZone k b l) = putZone k a l := by
  have zones : ((putZone k b l).zones).setIfInBounds (k - 1) a = l.zones.setIfInBounds (k - 1) a := by
    refine Vector.ext fun i inside => ?_
    simp only [putZone, Vector.getElem_setIfInBounds]
    split <;> rfl
  unfold putZone at zones ⊢
  rw [zones]

/-- The lane whose zone Z passes its record to the counter, with the discharge timer at 0 (R126). -/
def dischargingLane (l : Lane) : Lane :=
  { putZone l.zoneCount { zone l l.zoneCount with state := .passing } l with discharge := some ⟨0, l.dischargeLimit * 10⟩ }

theorem zone_dischargingLane {l : Lane} (low : 1 ≤ l.zoneCount) (high : l.zoneCount ≤ 8) :
    zone (dischargingLane l) l.zoneCount = { zone l l.zoneCount with state := .passing } := zone_putZone_self l _ low high

/-- A node with a dark READY lamp. -/
def darkened (s : State) : State := { s with counter := { s.counter with readyLit := false } }

theorem startDischarge_eq {s : State} (low : 1 ≤ s.lane.zoneCount) (high : s.lane.zoneCount ≤ 8) :
    startDischarge s =
      if zoneBlocked s s.lane.zoneCount then darkened { s with lane := dischargingLane s.lane }
      else completeDischarge (darkened { s with lane := dischargingLane s.lane }) := by
  have dark : evalReady { s with lane := dischargingLane s.lane } = darkened { s with lane := dischargingLane s.lane } :=
    evalReady_of_dark (readyHolds_of_not_held (l := dischargingLane s.lane) (by
      rw [show (dischargingLane s.lane).zoneCount = s.lane.zoneCount from rfl, zone_dischargingLane low high]
      exact (by decide : ZoneState.passing ≠ .held)))
  show (if zoneBlocked (evalReady { s with lane := dischargingLane s.lane }) s.lane.zoneCount then
      evalReady { s with lane := dischargingLane s.lane }
    else completeDischarge (evalReady { s with lane := dischargingLane s.lane })) = _
  rw [dark]
  rfl

theorem readyHolds_dischargedLane (l : Lane) : readyHolds (dischargedLane l) = false := by
  refine readyHolds_of_not_held ?_
  rw [dischargedLane_zoneCount]
  have empty : zone (dischargedLane l) l.zoneCount = zone (putZone l.zoneCount emptyZone l) l.zoneCount := rfl
  rw [empty]
  rcases Nat.lt_or_ge 8 l.zoneCount with high | high
  · rw [zone_of_gt _ high]
    decide
  · rcases Nat.eq_zero_or_pos l.zoneCount with zero | low
    · rw [zero, show zone (putZone 0 emptyZone l) 0 = zone (putZone 1 emptyZone l) 1 from rfl, zone_putZone_self l _ le_rfl (by decide)]
      decide
    · rw [zone_putZone_self l _ low high]
      decide

/-- A completion leaves a dark lamp, and the Counter Interface takes the record (R126, R139). -/
theorem completeDischarge_of_record {s : State} {r : LaneRecord} (passes : (zone s.lane s.lane.zoneCount).record = some r) :
    completeDischarge s = completionTaken r (darkened { s with lane := dischargedLane s.lane }) := by
  have dark : evalReady { s with lane := dischargedLane s.lane } = darkened { s with lane := dischargedLane s.lane } :=
    evalReady_of_dark (readyHolds_dischargedLane s.lane)
  simp only [completeDischarge, passes, dark]

/-! ### The completion at the Counter Interface -/

theorem releaseGoesOn_iff (s : State) :
    releaseGoesOn s = true ↔ s.lane.state = .running ∧
      ∃ g f, s.counter.group = some g ∧ frontRecord s.lane = some f ∧ multiToteOf g f = true := by
  unfold releaseGoesOn
  cases s.counter.group <;> cases frontRecord s.lane <;> simp

theorem endDetail_iff (s : State) (detail : Nat) :
    ((∃ g, s.counter.group = some g ∧ anyRecord s.lane (multiToteOf g) = true) ∧ detail = 2 ∨
      (¬ ∃ g, s.counter.group = some g ∧ anyRecord s.lane (multiToteOf g) = true) ∧ detail = 0) ↔ detail = endDetail s := by
  unfold endDetail
  cases s.counter.group with
  | none => simp
  | some g => cases found : anyRecord s.lane (multiToteOf g) <;> simp [found]

/-- The RELEASED note of a completion (R139). -/
def releasedNote (r : LaneRecord) (detail : Nat) (s : State) : NoteBody :=
  ⟨r.tote.tag, r.tote.order, detail, BitVec.ofNat 16 (min 255 (s.counter.count + 1)), s.belt.pos⟩

/-- The release goes on with its group order (R139). -/
theorem completionTaken_of_more {r : LaneRecord} {s : State} (more : releaseGoesOn s = true) :
    completionTaken r s = raise .released (releasedNote r 1 s)
      { s with counter := { s.counter with count := min 255 (s.counter.count + 1), release := .waiting } } := if_pos more

/-- The release ends, and no press is taken anew (R139, R141). -/
theorem completionTaken_of_last {r : LaneRecord} {s : State} (last : releaseGoesOn s = false)
    (quiet : s.counter.pressWaits = false ∨ s.lane.state = .paused) :
    completionTaken r s = raise .released (releasedNote r (endDetail s) s) { s with counter := quietEnd s.counter } := by
  have unheard : ¬ (s.counter.pressWaits = true ∧ s.lane.state ≠ .paused) := by
    rintro ⟨waits, free⟩
    rcases quiet with none | paused
    · rw [none] at waits
      cases waits
    · exact free paused
  refine (if_neg (by rw [last]; exact Bool.false_ne_true)).trans ?_
  exact if_neg unheard

/-- The release ends, and the press that waits is refused as EMPTY (R140). -/
theorem completionTaken_of_press {r : LaneRecord} {s : State} (last : releaseGoesOn s = false) (waits : s.counter.pressWaits = true)
    (running : s.lane.state = .running) (empty : (zone s.lane s.lane.zoneCount).state ≠ .held) :
    completionTaken r s = refuseRequest .empty 2
      (raise .released (releasedNote r (endDetail s) s) { s with counter := quietEnd s.counter }) := by
  have heard : s.counter.pressWaits = true ∧ s.lane.state ≠ .paused := ⟨waits, by rw [running]; nofun⟩
  have refused := requestRefusal_of_empty running empty
  refine (if_neg (by rw [last]; exact Bool.false_ne_true)).trans ?_
  refine (if_pos heard).trans ?_
  rw [show requestRefusal (raise .released _ { s with counter := { s.counter with count := bump 255 s.counter.count } }).lane =
    some .empty from refused]
  rfl

/-! ### Requests and discharges of a lane at rest -/

theorem laneRests_discharging {s : State} (rests : LaneRests s) (low : 2 ≤ s.lane.zoneCount) (c : Counter) :
    LaneRests { s with lane := dischargingLane s.lane, counter := c } := by
  obtain ⟨empty, filling, advance⟩ := rests
  have below : ∀ k, 1 ≤ k → k < s.lane.zoneCount → zone (dischargingLane s.lane) k = zone s.lane k := fun k low' inside =>
    zone_putZone_of_ne s.lane _ low' (by omega) (by omega)
  refine ⟨?_, ?_, fun free k inside low' ⟨stands, vacant⟩ => ?_⟩
  · show (zone (dischargingLane s.lane) 1).state = .empty → s.lane.inbound = []
    rw [below 1 le_rfl low]
    exact empty
  · show (zone (dischargingLane s.lane) 1).state = .filling → s.lane.inbound ≠ []
    rw [below 1 le_rfl low]
    exact filling
  · replace inside : k < s.lane.zoneCount := inside
    replace stands : (zone (dischargingLane s.lane) k).state = .held := stands
    replace vacant : (zone (dischargingLane s.lane) (k + 1)).state = .empty := vacant
    rw [below k low' inside] at stands
    refine advance free k inside low' ⟨stands, ?_⟩
    rcases Nat.lt_or_eq_of_le inside with more | last
    · rwa [below (k + 1) (by omega) more] at vacant
    · rcases Nat.lt_or_ge 8 (k + 1) with far | near
      · rw [zone_of_gt _ far]
        rfl
      · have passing : (zone (dischargingLane s.lane) (k + 1)).state = .passing := by
          rw [show zone (dischargingLane s.lane) (k + 1) = zone (dischargingLane s.lane) s.lane.zoneCount by rw [← last],
            zone_dischargingLane (by omega) (by omega)]
        rw [passing] at vacant
        cases vacant

theorem idleRequest_of_refused {s : State} {reason : RefuseReason} (source : Nat) (refused : requestRefusal s.lane = some reason) :
    idleRequest source s = refuseRequest reason source s := by
  simp only [idleRequest, refused]

theorem idleRequest_of_taken {s : State} (source : Nat) (taken : requestRefusal s.lane = none) :
    idleRequest source s = startDischarge { s with counter := { s.counter with
      release := .discharging, mode := s.lane.mode, count := 0, group := groupOf s.lane } } := by
  simp only [idleRequest, taken]

theorem releaseRequest_of_idle {s : State} (idle : s.counter.release = .idle) (source : Nat) :
    releaseRequest source s = idleRequest source s := by
  simp only [releaseRequest, idle]

theorem releaseRequest_of_busy {s : State} (busy : s.counter.release ≠ .idle) (source : Nat) :
    releaseRequest source s = { s with counter := { s.counter with pressWaits := true } } := by
  unfold releaseRequest
  split
  · exact absurd ‹_› busy
  · rfl
  · rfl

/-- A refused request as one update (R137, R143). -/
theorem refuseRequest_eq (reason : RefuseReason) (source : Nat) (s : State) :
    refuseRequest reason source s = raise .releaseRefused
      ⟨((frontRecord s.lane).map fun r => r.tote.tag).getD 0, ((frontRecord s.lane).map fun r => r.tote.order).getD 0, reason.code,
        BitVec.ofNat 16 source, s.belt.pos⟩ { s with counter := { s.counter with waitTimer := some 0 } } := by
  rw [refuseRequest, frontTags_eq]
  rfl

/-- The node in which a release has been started: zone Z is PASSING and the Counter Interface is DISCHARGING (R137). -/
def startedNode (s : State) : State :=
  { s with
    lane := dischargingLane s.lane
    counter := { s.counter with
      release := .discharging, mode := s.lane.mode, count := 0, readyLit := false
      group := if s.lane.mode = .order then ((frontRecord s.lane).filter multiTote).map fun r => r.tote.order else none } }

theorem idleRequest_started {s : State} (source : Nat) (taken : requestRefusal s.lane = none) (low : 2 ≤ s.lane.zoneCount)
    (high : s.lane.zoneCount ≤ 8) :
    idleRequest source s = if zoneBlocked s s.lane.zoneCount then startedNode s else completeDischarge (startedNode s) := by
  rw [idleRequest_of_taken source taken, groupOf_eq]
  exact startDischarge_eq (s := { s with counter := _ }) (by exact (by omega : 1 ≤ s.lane.zoneCount)) high

theorem dischargedLane_dischargingLane (l : Lane) :
    dischargedLane (dischargingLane l) = { putZone l.zoneCount emptyZone l with
      discharge := none, lateTimeout := l.lateTimeout || timerOut (some ⟨0, l.dischargeLimit * 10⟩) } := by
  have zones := congrArg Lane.zones (putZone_putZone_self l.zoneCount emptyZone { zone l l.zoneCount with state := .passing } l)
  simp only [putZone] at zones
  simp only [dischargedLane, dischargingLane, putZone, zones]

/-- The node whose release has just emptied zone Z at once (R126). -/
def emptiedNode (s : State) : State := { startedNode s with lane := dischargedLane (dischargingLane s.lane) }

/-- A discharge that completes within its request (R126, R139). -/
theorem completeDischarge_startedNode {s : State} {r : LaneRecord} (low : 2 ≤ s.lane.zoneCount) (high : s.lane.zoneCount ≤ 8)
    (stands : (zone s.lane s.lane.zoneCount).record = some r)
    (none : s.counter.pressWaits = false) :
    completeDischarge (startedNode s) =
      if releaseGoesOn (emptiedNode s) then raise .released (releasedNote r 1 (emptiedNode s))
        { emptiedNode s with counter := { (emptiedNode s).counter with count := 1, release := .waiting } }
      else raise .released (releasedNote r (endDetail (emptiedNode s)) (emptiedNode s))
        { emptiedNode s with counter := quietEnd (emptiedNode s).counter } := by
  have passes : (zone (startedNode s).lane (startedNode s).lane.zoneCount).record = some r := by
    rw [show (zone (startedNode s).lane (startedNode s).lane.zoneCount) = _ from zone_dischargingLane (l := s.lane) (by omega) high]
    exact stands
  rw [completeDischarge_of_record passes]
  show completionTaken r (emptiedNode s) = _
  cases more : releaseGoesOn (emptiedNode s) with
  | true =>
    rw [if_pos rfl, completionTaken_of_more more]
    rfl
  | false =>
    rw [if_neg Bool.false_ne_true, completionTaken_of_last more (.inl none)]

/-- The outcome and reason of a RELEASE answer (R165). -/
theorem releaseAnswer_of_refused {s : State} {r : RefuseReason} (idle : s.counter.release = .idle)
    (refused : requestRefusal s.lane = some r) : releaseAnswer s = (3, r.code) := by
  simp only [releaseAnswer, idle, refused]

theorem releaseAnswer_of_taken {s : State} (idle : s.counter.release = .idle) (taken : requestRefusal s.lane = none) :
    releaseAnswer s = (0, 0) := by
  simp only [releaseAnswer, idle, taken]

theorem releaseAnswer_of_busy {s : State} (busy : s.counter.release ≠ .idle) :
    releaseAnswer s = if s.counter.pressWaits then (2, 0) else (1, 0) := by
  unfold releaseAnswer
  split
  · exact absurd ‹_› busy
  · rfl
  · rfl

theorem exec_release {a : Ask} {s t : State} {outcome reason : Nat} (listening : Listening s) (mine : Mine a.target s)
    (empty : a.fields = []) (answer : releaseAnswer s = (outcome, reason)) (taken : settleLane (releaseRequest 1 s) = t) :
    exec (.release a) s = .next (answered a 0x33 0 false [outcome, reason] t) := by
  refine exec_askCommand_ok (c := .release) listening mine (by rw [empty]; exact (by decide : 0 < 32)) (by rw [empty]; rfl) nofun rfl ?_
  show takeReleaseAsk s = _
  rw [takeReleaseAsk, answer, taken]
  rfl

/-- A press at a calm node (R136). -/
theorem exec_buttonPress {s : State} (calm : Calm s) (timing : s.counter.button = .timing) :
    exec .buttonPress s =
      .next (settleLane (releaseRequest 0 { s with counter := { s.counter with button := .spent, buttonTimer := none } })) := by
  show Host.Outcome.next (pressTaken (settle s)) = _
  rw [settle_of_calm calm, pressTaken, if_neg (by simp [calm.1, timing])]

/-- Settles O39: the request at the counter that the button, or the ask, leaves. -/
theorem releaseIsRequested : Obligations.ReleaseIsRequested := by
  intro s calm rests low high z front reason refused started group emptied more left completed waits
  have refusal : (requestRefusal s.lane).map RefuseReason.code = reason := requestRefusal_code s.lane
  have takes : reason = none → requestRefusal s.lane = none := fun none => Option.map_eq_none_iff.mp (refusal.trans none)
  have refuses : ∀ (c : Counter) (source code : Nat), c.release = .idle → reason = some code →
      settleLane (releaseRequest source { s with counter := c }) = refused source code { s with counter := c } := by
    intro c source code idle some
    obtain ⟨test, applies, rfl⟩ := Option.map_eq_some_iff.mp (refusal.trans some)
    rw [releaseRequest_of_idle (s := { s with counter := c }) idle,
      idleRequest_of_refused (s := { s with counter := c }) source applies, refuseRequest_eq]
    exact settleLane_of_rests rests
  have starts : ∀ (c : Counter) (source : Nat), c.release = .idle → reason = none → zoneBlocked s s.lane.zoneCount = true →
      settleLane (releaseRequest source { s with counter := c }) = started { s with counter := c } := by
    intro c source idle none blocked
    rw [releaseRequest_of_idle (s := { s with counter := c }) idle,
      idleRequest_started (s := { s with counter := c }) source (takes none) low high]
    exact (congrArg settleLane (if_pos blocked)).trans (settleLane_of_rests (laneRests_discharging rests low _))
  have completes : ∀ (c : Counter) (source : Nat) (r : LaneRecord), c.release = .idle → c.pressWaits = false → reason = none →
      zoneBlocked s s.lane.zoneCount = false → z.record = some r →
      settleLane (releaseRequest source { s with counter := c }) = completed r { s with counter := c } := by
    intro c source r idle still none clear stands
    obtain ⟨release, mode, cgroup, count, pressWaits, button, buttonTimer, waitTimer, readyLit⟩ := c
    obtain rfl : pressWaits = false := still
    have running := (requestRefusal_eq_none (takes none)).1
    let u : State := { s with counter := ⟨release, mode, cgroup, count, false, button, buttonTimer, waitTimer, readyLit⟩ }
    have lane : (emptiedNode u).lane = emptied := dischargedLane_dischargingLane s.lane
    have goesOn : releaseGoesOn (emptiedNode u) = more := by
      have runs : ((emptiedNode u).lane.state == LaneState.running) = true := beq_iff_eq.mpr running
      unfold releaseGoesOn
      rw [runs, lane]
      cases owner : group with
      | none => simp only [more, owner, show (emptiedNode u).counter.group = _ from owner]
      | some g =>
        simp only [more, owner, show (emptiedNode u).counter.group = _ from owner]
        cases frontRecord emptied <;> rfl
    have detail : endDetail (emptiedNode u) = if left then 2 else 0 := by
      unfold endDetail
      rw [lane]
      cases owner : group with
      | none => simp only [left, owner, show (emptiedNode u).counter.group = _ from owner]; rfl
      | some g => simp only [left, owner, show (emptiedNode u).counter.group = _ from owner]
    rw [releaseRequest_of_idle (s := u) idle, idleRequest_started (s := u) source (takes none) low high,
      if_neg (by rw [show zoneBlocked u u.lane.zoneCount = false from clear]; exact Bool.false_ne_true),
      completeDischarge_startedNode (s := u) low high stands rfl, goesOn, detail]
    have whole : ∀ k : Counter, { emptiedNode u with counter := k } = { u with lane := emptied, counter := k } := fun k =>
      congrArg (fun l => { u with lane := l, counter := k }) lane
    rw [whole, whole]
    by_cases on : more = true
    · simp only [completed, on, if_true]
      rfl
    · simp only [completed, on]
      rfl
  have presses : ∀ (c : Counter) (source : Nat), c.release ≠ .idle →
      settleLane (releaseRequest source { s with counter := c }) = waits { s with counter := c } := by
    intro c source busy
    rw [releaseRequest_of_busy (s := { s with counter := c }) busy]
    exact settleLane_of_rests rests
  refine ⟨fun timing => ?_, fun other => ?_, fun a listening mine empty => ?_⟩
  · intro pressed
    have press := exec_buttonPress calm timing
    refine ⟨fun code idle some => ?_, fun idle none blocked => ?_, fun r idle still none clear stands => ?_, fun busy => ?_⟩
    · exact press.trans (congrArg Host.Outcome.next (refuses _ 0 code idle some))
    · exact press.trans (congrArg Host.Outcome.next (starts _ 0 idle none blocked))
    · exact press.trans (congrArg Host.Outcome.next (completes _ 0 r idle still none clear stands))
    · exact press.trans (congrArg Host.Outcome.next (presses _ 0 busy))
  · show Host.Outcome.next (pressTaken (settle s)) = _
    rw [settle_of_calm calm, pressTaken, if_pos (by simp [other])]
  · refine ⟨fun code idle some => ?_, fun idle none blocked => ?_, fun r idle still none clear stands => ?_, fun busy => ?_⟩
    · obtain ⟨test, applies, rfl⟩ := Option.map_eq_some_iff.mp (refusal.trans some)
      exact exec_release listening mine empty (releaseAnswer_of_refused idle applies) (refuses s.counter 1 test.code idle some)
    · exact exec_release listening mine empty (releaseAnswer_of_taken idle (takes none)) (starts s.counter 1 idle none blocked)
    · exact exec_release listening mine empty (releaseAnswer_of_taken idle (takes none))
        (completes s.counter 1 r idle still none clear stands)
    · refine exec_release listening mine empty ?_ (presses s.counter 1 busy)
      rw [releaseAnswer_of_busy busy]
      split <;> rfl

end Sys2Proof.Machine
end

section
/-! SUPPORT. A release that runs its course: a completion at the counter's zone, the timeout that comes together with it, and a tote that
reaches zone Z while the release is WAITING (R126, R139 to R141). -/

namespace Sys2Proof.Machine

/-! ### The mark of a timeout outlives what the lane does of itself -/

/-- A lane that is not JAMMED and keeps the mark of a timeout that came together with a completion (log entry 38). -/
def LateFree (l : Lane) : Prop := l.state ≠ .jammed ∧ l.lateTimeout = true

theorem lateFree_discharged {l : Lane} (h : LateFree l) : LateFree (dischargedLane l) :=
  ⟨h.1, by rw [dischargedLane_lateTimeout, h.2, Bool.true_or]⟩

theorem lateFree_startDischarge {s : State} (h : LateFree s.lane) : LateFree (startDischarge s).lane := by
  have passing : LateFree (evalReady { s with lane := dischargingLane s.lane }).lane := by
    rw [evalReady_lane]
    exact h
  unfold startDischarge
  dsimp only
  split
  · exact passing
  · rw [completeDischarge_lane]
    exact lateFree_discharged passing

theorem lateFree_idleRequest {s : State} (source : Nat) (h : LateFree s.lane) : LateFree (idleRequest source s).lane := by
  unfold idleRequest
  split
  · exact h
  · exact lateFree_startDischarge h

theorem lateFree_zoneZHeld {s : State} (h : LateFree s.lane) : LateFree (zoneZHeld s).lane := by
  have ended : LateFree (endInWaiting s).lane := by
    unfold endInWaiting
    dsimp only
    split
    · exact lateFree_idleRequest 2 h
    · exact h
  unfold zoneZHeld
  split
  · split
    · split
      · exact lateFree_startDischarge h
      · exact ended
    · exact ended
  · exact h

theorem lateFree_arrive {s : State} (k : Nat) (h : LateFree s.lane) : LateFree (arrive k s).lane := by
  unfold arrive
  split
  · exact h
  · dsimp only
    split
    · refine lateFree_zoneZHeld ?_
      rw [evalReady_lane]
      exact h
    · rw [evalReady_lane]
      exact h

theorem lateFree_laneRule {s t : State} (h : LateFree s.lane) (rule : laneRule s = some t) : LateFree t.lane := by
  rcases laneRule_cases rule with ⟨r, rest, -, -, rfl⟩ | ⟨-, -, rfl⟩ | ⟨k, -, -, -, rfl⟩
  · unfold zone1Fills
    dsimp only
    split
    · rw [enterZone1_lane_eq, evalReady_lane]
      exact h
    · rw [evalReady_lane]
      exact h
  · rw [evalReady_lane]
    exact h
  · unfold startTransfer
    dsimp only
    split
    · refine lateFree_arrive _ ?_
      rw [evalReady_lane]
      exact h
    · rw [evalReady_lane]
      exact h

theorem lateFree_settleLane {s : State} (h : LateFree s.lane) : LateFree (settleLane s).lane :=
  settleLane_keeps (P := fun t => LateFree t.lane) lateFree_laneRule h

/-! ### A jammed lane -/

/-- A jam that has ended every release (R127, R141). -/
def JamEnded (s : State) : Prop :=
  s.lane.state = .jammed ∧ s.counter.release = .idle ∧ s.counter.group = none ∧ s.counter.pressWaits = false

theorem jamEnded_evalReady {s : State} (h : JamEnded s) : JamEnded (evalReady s) := by
  obtain ⟨lane, -, counter⟩ := evalReady_keeps s
  unfold JamEnded
  rw [lane, counter]
  exact h

theorem jamEnded_laneRule {s t : State} (h : JamEnded s) (rule : laneRule s = some t) : JamEnded t := by
  have stopped : s.lane.state = .jammed := h.1
  rcases laneRule_cases rule with ⟨r, rest, -, -, rfl⟩ | ⟨-, -, rfl⟩ | ⟨k, -, -, due, rfl⟩
  · have fills : zone1Fills s = evalReady { s with lane := putZone 1 { zone s.lane 1 with state := .filling } s.lane } :=
      if_neg (by simp [stopped])
    rw [fills]
    exact jamEnded_evalReady h
  · exact jamEnded_evalReady h
  · exact absurd stopped ((transferDue_iff _ _).mp due).1

/-- After a jam every release has ended, whatever zone 1 does with the inbound list. -/
theorem jamEnded_settleLane_jam (detail : Nat) (record : Option LaneRecord) (k : Nat) (s : State) :
    JamEnded (settleLane (jam detail record k s)) := by
  refine settleLane_keeps (P := JamEnded) jamEnded_laneRule ?_
  rw [jam_eq]
  exact ⟨rfl, rfl, rfl, rfl⟩

/-- What goes onward keeps a node calm: it sets no deadline. -/
theorem LaneOnward.calm {s t : State} (h : LaneOnward s t) (calm : Calm s) : Calm t := by
  obtain ⟨high, none⟩ := calm
  have side := h.side
  have reach : ∀ d, reaches t d = reaches s d := fun d => by rw [reaches, reaches, side.resetLow, side.belt]
  refine ⟨side.resetLow.trans high, ?_⟩
  simp only [anyDue, Bool.or_eq_false_iff] at none ⊢
  obtain ⟨⟨⟨⟨⟨⟨trailing, blocked⟩, head⟩, reservations⟩, fire⟩, release⟩, entries⟩ := none
  refine ⟨⟨⟨⟨⟨⟨?_, ?_⟩, ?_⟩, ?_⟩, ?_⟩, ?_⟩, ?_⟩
  · rwa [trailingDue, reach, side.eye]
  · rwa [blockedDue, reach, side.eye]
  · rwa [headDue, reach, side.tracking]
  · simp only [reservationDue, reach, h.admission]
    exact reservations
  · rwa [fireDue, reach, side.diverter]
  · rwa [releaseDue, reach, side.diverter]
  · simp only [entryDue, reach, List.any_eq_false] at entries ⊢
    exact fun r among => entries r (h.inbound.subset among)

/-- A timeout whose discharge was completed in the same millisecond jams the lane (R141; log entry 38). -/
theorem dischargeTimeout_after_completion {s : State} (calm : Calm s) (late : LateFree s.lane) :
    ∃ u, exec .dischargeTimeout s = .next u ∧ JamEnded u := by
  obtain ⟨free, marked⟩ := late
  refine ⟨_, exec_dischargeTimeout calm, ?_⟩
  rw [dischargeRunsOut, if_neg (by simp [calm.1, free, timeoutMayCome, marked])]
  exact jamEnded_settleLane_jam _ _ _ s

/-! ### The WAITING watch -/

theorem arrive_last {s : State} {r : LaneRecord} (behind : (zone s.lane (s.lane.zoneCount - 1)).record = some r) :
    arrive s.lane.zoneCount s = zoneZHeld (evalReady { s with
      lane := putZone s.lane.zoneCount ⟨.held, some r, false, none⟩ (putZone (s.lane.zoneCount - 1)
        (if (zone s.lane (s.lane.zoneCount - 1)).partEnded then emptyZone
          else { zone s.lane (s.lane.zoneCount - 1) with record := none }) s.lane) }) := by
  simp only [arrive, behind, if_true, transferPart_moved]

theorem zoneZHeld_of_group {s : State} {g : Ident} {r : LaneRecord} (waiting : s.counter.release = .waiting)
    (group : s.counter.group = some g) (stands : (zone s.lane s.lane.zoneCount).record = some r) (same : multiToteOf g r = true)
    (running : s.lane.state = .running) :
    zoneZHeld s = startDischarge { s with counter := { s.counter with release := .discharging } } := by
  simp only [zoneZHeld, waiting, group, stands, same, running, and_self, if_true]

theorem zoneZHeld_of_other {s : State} {g : Ident} {r : LaneRecord} (waiting : s.counter.release = .waiting)
    (group : s.counter.group = some g) (stands : (zone s.lane s.lane.zoneCount).record = some r)
    (other : multiToteOf g r = false ∨ s.lane.state = .paused) : zoneZHeld s = endInWaiting s := by
  have ends : ¬ (multiToteOf g r = true ∧ s.lane.state = .running) := by
    rintro ⟨same, running⟩
    rcases other with foreign | paused
    · rw [foreign] at same
      cases same
    · rw [paused] at running
      cases running
  simp only [zoneZHeld, waiting, group, stands, if_true]
  exact if_neg ends

theorem zoneCleared_of_discharge {s : State} (passing : (zone s.lane s.lane.zoneCount).state = .passing) :
    zoneCleared s.lane.zoneCount s = completeDischarge s := by
  simp only [zoneCleared, passing, lt_self_iff_false, if_false]

/-- Settles O40: a completion by whether the release goes on, and an arrival at zone Z in WAITING. -/
theorem releaseRunsItsCourse : Obligations.ReleaseRunsItsCourse := by
  refine ⟨fun s i level r calm low place free reads passing stands => ?_,
    fun s i level r g calm low place free reads changes filling behind waiting group => ?_⟩
  · intro together lane n more left after idle settled
    set u : State := withZoneEye i level s with node
    have laneEq : dischargedLane s.lane = lane := by
      have ends : timerOut s.lane.discharge = together := by
        show timerOut s.lane.discharge = match s.lane.discharge with
          | some t => decide (t.limit ≤ t.elapsed)
          | none => false
        cases s.lane.discharge <;> rfl
      simp only [dischargedLane, ends, lane]
    have acts : exec (.zoneEyeChange i level) s = .next (settleLane (completeDischarge u)) := by
      have expects : awaitsTote (zone s.lane (i.val + 1)) = false := by
        rw [place]
        exact awaitsTote_of_passing passing
      rw [exec_zoneEyeChange_acts calm (.inr expects), reads, place]
      refine congrArg Host.Outcome.next ((zoneChanged_of_free (s := u) free (show s.lane.zoneCount ≤ s.lane.zoneCount from le_rfl) false).trans ?_)
      exact congrArg settleLane (zoneCleared_of_discharge (s := u) passing)
    set v : State := darkened { u with lane := lane } with emptied
    have taken : completeDischarge u = completionTaken r v := by
      rw [completeDischarge_of_record (s := u) stands, show dischargedLane u.lane = lane from laneEq]
    have goesOn : releaseGoesOn v = true ↔ more := releaseGoesOn_iff v
    have empty : (zone v.lane v.lane.zoneCount).state ≠ .held := by
      have last : zone lane s.lane.zoneCount = emptyZone := zone_putZone_self s.lane emptyZone (by omega) (by omega)
      rw [show zone v.lane v.lane.zoneCount = emptyZone from last]
      decide
    rw [taken] at acts
    refine ⟨fun goes => ?_, fun detail ends part => ?_, fun late => ?_⟩
    · exact acts.trans (congrArg (fun t => Host.Outcome.next (settleLane t)) (completionTaken_of_more (goesOn.mpr goes)))
    · have last : releaseGoesOn v = false := Bool.eq_false_iff.mpr fun goes => ends (goesOn.mp goes)
      obtain rfl : detail = endDetail v := (endDetail_iff v detail).mp part
      refine ⟨fun quiet => ?_, fun waits running => ?_⟩
      · exact acts.trans (congrArg (fun t => Host.Outcome.next (settleLane t)) (completionTaken_of_last last quiet))
      · exact acts.trans (congrArg (fun t => Host.Outcome.next (settleLane t))
          ((completionTaken_of_press last waits running empty).trans (refuseRequest_eq _ _ _)))
    · have lateFree : LateFree (completionTaken r v).lane := by
        rw [completionTaken_lane]
        exact ⟨free, by simp [v, darkened, lane, late]⟩
      have onward : LaneOnward u (settleLane (completionTaken r v)) := by
        rw [← taken]
        exact (completeDischarge_onward u).trans (settleLane_onward _)
      have calm' : Calm u := calm
      obtain ⟨w, takes, jammed, ended, ungrouped, unheard⟩ :=
        dischargeTimeout_after_completion (onward.calm calm') (lateFree_settleLane lateFree)
      exact ⟨_, w, acts, takes, jammed, ended, ungrouped, unheard⟩
  · intro rear arrived
    set u : State := withZoneEye i level s with node
    obtain ⟨lane, -, counter⟩ := evalReady_keeps { s with
      pins := { s.pins with zeye := s.pins.zeye.set i level }
      lane := putZone s.lane.zoneCount ⟨.held, some r, false, none⟩ (putZone (s.lane.zoneCount - 1)
        (if rear.partEnded then emptyZone else { rear with record := none }) s.lane) }
    have reached : zone arrived.lane arrived.lane.zoneCount = ⟨.held, some r, false, none⟩ := by
      rw [lane]
      exact zone_putZone_self _ _ (by exact (by omega : 1 ≤ s.lane.zoneCount)) (by exact (by omega : s.lane.zoneCount ≤ 8))
    have stands : (zone arrived.lane arrived.lane.zoneCount).record = some r := congrArg Zone.record reached
    have waiting' : arrived.counter.release = .waiting := by rw [counter]; exact waiting
    have group' : arrived.counter.group = some g := by rw [counter]; exact group
    have state : arrived.lane.state = s.lane.state := by rw [lane]; rfl
    have count : arrived.lane.zoneCount = s.lane.zoneCount := by rw [lane]; rfl
    have acts : exec (.zoneEyeChange i level) s = .next (settleLane (zoneZHeld arrived)) := by
      have above : i.val + 1 ≠ 1 := by omega
      rw [exec_zoneEyeChange_acts calm (.inl changes), reads]
      refine congrArg Host.Outcome.next ((zoneChanged_of_free (s := u) free (by exact (by omega : i.val + 1 ≤ s.lane.zoneCount)) true).trans ?_)
      rw [if_pos rfl, if_neg above, place, zoneKBlocked_of_filling (s := u) filling]
      exact congrArg settleLane (arrive_last (s := u) behind)
    refine ⟨fun same running => ?_, fun other => ?_⟩
    · have blocked : zoneBlocked arrived arrived.lane.zoneCount = true := by
        have eye : zoneBlocked u s.lane.zoneCount = true := by
          rw [← place]
          simpa [zoneBlocked, u, Vector.getD] using reads
        have side : LaneSide u arrived := LaneSide.trans (by constructor <;> first | rfl | exact .refl _) (evalReady_laneSide _)
        rw [zoneBlocked_congr side.pins side.polarity, count]
        exact eye
      have limit : arrived.lane.dischargeLimit = s.lane.dischargeLimit := by rw [lane]; rfl
      rw [acts, zoneZHeld_of_group waiting' group' stands same (state.trans running)]
      refine congrArg (fun t => Host.Outcome.next (settleLane t)) ?_
      refine (startDischarge_eq (s := { arrived with counter := { arrived.counter with release := .discharging } })
        (by exact (by omega : 1 ≤ arrived.lane.zoneCount)) (by exact (by omega : arrived.lane.zoneCount ≤ 8))).trans ((if_pos blocked).trans ?_)
      have passes : dischargingLane arrived.lane = { putZone s.lane.zoneCount ⟨.passing, some r, false, none⟩ arrived.lane with
          discharge := some ⟨0, s.lane.dischargeLimit * 10⟩ } := by
        rw [count] at reached
        simp only [dischargingLane, reached, count, limit]
      exact congrArg (fun l => darkened { arrived with lane := l, counter := { arrived.counter with release := .discharging } }) passes
    · intro ended
      have pressed : arrived.counter.pressWaits = s.counter.pressWaits := by rw [counter]
      rw [acts, zoneZHeld_of_other waiting' group' stands (by rwa [state]), endInWaiting, pressed]
      rfl

end Sys2Proof.Machine
end

section
/-! SUPPORT. How an ask finds its node, and the asks that read a record, set the enables and clear the flags (sections 9.4, 10.1, 10.2 and
10.4). -/

namespace Sys2Proof.Machine

/-! ### Asks by target and code -/

theorem askOf_none_iff (payload : List Byte) : askOf payload = none ↔ ∀ b ∈ payload.head?, askOfByte b = none := by
  cases payload <;> simp [askOf]

/-- A frame with no code of Table 9-9 goes on, unseen by the Request Unit, when it is not for this node alone (R148, R160). -/
theorem askArrives_unknown_foreign {f : LineFrame} {s : State} (other : ¬ Mine f.target s) (unknown : askOf f.payload = none) :
    askArrives f s = forwardFrame (ofKind .ask f) s := by
  by_cases all : f.target = 63
  · rw [askArrives, if_pos all, unknown]
  · exact askArrives_foreign all other

theorem askArrives_unknown_mine {f : LineFrame} {s : State} (mine : Mine f.target s) (unknown : askOf f.payload = none) :
    askArrives f s = answeredUnknown f.tag f.payload s := by
  have single : f.target ≠ 63 := by
    rw [mine.2]
    exact positionByte_ne_broadcast s.line
  rw [askArrives, if_neg single, if_pos ((addressed_iff _ _).mpr mine), unknown]

theorem askOf_askFrame (c : AskCode) (a : Ask) : askOf (askFrame c a).payload = some (c, a.fields) := by
  simp [askOf, askFrame, askOfByte_code]

/-- A broadcast is acted on, and goes on (R150). -/
theorem askArrives_broadcast {a : Ask} (all : a.target = 63) (c : AskCode) (s : State) :
    askArrives (askFrame c a) s = forwardFrame (ofKind .ask (askFrame c a)) (broadcastEffect c a.fields s) := by
  rw [askArrives, if_pos (show (askFrame c a).target = 63 from all), askOf_askFrame]

theorem broadcast_iff (c : AskCode) :
    c.broadcast = true ↔ c ∈ [.swapPlan, .copyPlan, .setReports, .clearFlags, .pauseLane, .resumeLane, .nodeReset] := by
  cases c <;> decide

theorem byte_ofNat_toNat (b : Byte) : BitVec.ofNat 8 b.toNat = b := BitVec.ofNat_toNat 8 b |>.trans (BitVec.setWidth_eq b)

/-- Settles O45: the arrival of an ASK frame by its target, then by its code and its length. -/
theorem asksFindTheirNode : Obligations.AsksFindTheirNode := by
  unfold Obligations.AsksFindTheirNode
  intro joined
  have join : ∀ (f : LineFrame) (t : State), forwardFrame (ofKind .ask f) t = joined (ofKind .ask f) t := fun f t =>
    forwardFrame_eq (ofKind .ask f) t
  have arrives : ∀ (f : LineFrame) (s : State), Listening s → f.payload.length ≤ 32 →
      exec (.unknownAsk f) s = .next (askArrives f s) := by
    intro f s listening short
    show Host.Outcome.next (received (ofKind .ask f) (settle s)) = _
    rw [received_of_listening listening, frameArrives_ask short]
  refine ⟨fun f s listening mine short => ?_, fun f s listening other short unknown => ?_, fun code a s listening short => ?_⟩
  · intro a
    refine ⟨fun empty => ?_, fun b rest payload unknown => ?_⟩
    · rw [arrives f s listening short, askArrives_unknown_mine mine ((askOf_none_iff _).mpr (by rw [empty]; nofun)), empty]
      exact congrArg Host.Outcome.next (answered_refusal a 0 .badLength s).symm
    · have none : askOf f.payload = .none := (askOf_none_iff _).mpr (by rw [payload]; rintro _ ⟨⟩; exact unknown)
      rw [arrives f s listening short, askArrives_unknown_mine mine none, payload]
      have answer := answered_refusal a b.toNat .unknownAsk s
      rw [byte_ofNat_toNat] at answer
      exact congrArg Host.Outcome.next answer.symm
  · rw [arrives f s listening short, askArrives_unknown_foreign other ((askOf_none_iff _).mpr unknown), join]
    rfl
  · intro frame
    have fits : (askFrame code a).payload.length ≤ 32 := short
    have takes : exec (askCommand code a) s = .next (askArrives (askFrame code a) s) := by
      rw [exec_askCommand, received_of_listening listening, frameArrives_ask fits]
    refine ⟨fun mine wrong => ?_, fun single other => ?_, fun all => ?_⟩
    · have answer := answered_refusal a code.code.toNat .badLength s
      rw [byte_ofNat_toNat] at answer
      rw [exec_askCommand, received_of_listening listening, frameArrives_mine mine a.source a.tag code short,
        answeredAsk_badLength wrong]
      exact congrArg Host.Outcome.next answer.symm
    · rw [takes, askArrives_foreign (f := askFrame code a) single other, join]
      rfl
    · rw [takes, askArrives_broadcast all, join]
      refine congrArg (fun t => Host.Outcome.next (joined frame t)) ?_
      exact if_congr (by rw [Bool.and_eq_true, broadcast_iff]) rfl rfl

/-! ### Enables and flags -/

theorem bytes3_of_bytes (a b c : Byte) : bytes3 ((a.toNat * 256 + b.toNat) * 256 + c.toNat) = [a, b, c] := by
  have first := a.isLt
  have second := b.isLt
  have third := c.isLt
  have high : BitVec.ofNat 8 (((a.toNat * 256 + b.toNat) * 256 + c.toNat) / 65536) = a :=
    BitVec.eq_of_toNat_eq (by rw [BitVec.toNat_ofNat]; omega)
  have middle : BitVec.ofNat 8 (((a.toNat * 256 + b.toNat) * 256 + c.toNat) / 256) = b :=
    BitVec.eq_of_toNat_eq (by rw [BitVec.toNat_ofNat]; omega)
  have low : BitVec.ofNat 8 ((a.toNat * 256 + b.toNat) * 256 + c.toNat) = c :=
    BitVec.eq_of_toNat_eq (by rw [BitVec.toNat_ofNat]; omega)
  rw [bytes3, high, middle, low]

theorem setBytes_of_bytes {a b c : Byte} (kinds : (a.toNat * 256 + b.toNat) * 256 + c.toNat < 2 ^ 21) :
    setBytes (BitVec.ofNat 21 ((a.toNat * 256 + b.toNat) * 256 + c.toNat)) = [a, b, c] := by
  rw [setBytes, BitVec.toNat_ofNat, Nat.mod_eq_of_lt kinds, bytes3_of_bytes]

/-- A global code of 0 or 1 comes back as it was sent (R168). -/
theorem bytesBool_of_le {b : Byte} (small : b.toNat ≤ 1) : bytesBool (b.toNat == 1) = [b] := by
  obtain zero | one : b.toNat = 0 ∨ b.toNat = 1 := by omega
  · rw [show b = 0 from BitVec.eq_of_toNat_eq zero]
    rfl
  · rw [show b = 1 from BitVec.eq_of_toNat_eq one]
    rfl

/-- Settles O50: each ask by whether its bytes name known kinds and codes. -/
theorem reportsAndFlagsAreSet : Obligations.ReportsAndFlagsAreSet := by
  intro a s w x y z listening mine fields enables named
  have short : a.fields.length < 32 := by rw [fields]; exact (by decide : 4 < 32)
  have right : (a.fields.length == 4) = true := by rw [fields]; rfl
  have one : decide (w = 1) = (w.toNat == 1) := by
    rw [Bool.eq_iff_iff, decide_eq_true_iff, beq_iff_eq]
    exact ⟨fun h => h ▸ rfl, fun h => BitVec.eq_of_toNat_eq h⟩
  refine ⟨?_, fun kinds extra => ?_, fun bad => ?_⟩
  · have whole : takeReports a.fields s.report = if w.toNat ≤ 1 ∧ decide (enables < 2097152) = true then
        ({ s.report with globalEnable := w.toNat == 1, enables := BitVec.ofNat 21 enables },
          okay false (bytesBool (w.toNat == 1) ++ setBytes (BitVec.ofNat 21 enables)))
      else (s.report, refusal .badValue) := by rw [fields]; rfl
    by_cases known : w.toNat ≤ 1 ∧ enables < 2 ^ 21
    · rw [if_pos known]
      refine exec_askCommand_ok (c := .setReports) listening mine short right nofun rfl ?_
      rw [if_pos ⟨known.1, decide_eq_true known.2⟩, bytesBool_of_le known.1, setBytes_of_bytes known.2] at whole
      rw [askEffect, whole, one]
      simp only [List.map_cons, List.map_nil, byte_ofNat_toNat]
      rfl
    · rw [if_neg known]
      refine exec_askCommand_refused (c := .setReports) (r := .badValue) listening mine short right nofun rfl ?_
      rw [if_neg fun h => known ⟨h.1, of_decide_eq_true h.2⟩] at whole
      rw [askEffect, whole]
  · intro flags lost errors
    refine exec_askCommand_ok (c := .clearFlags) listening mine short right nofun rfl ?_
    rw [askEffect, takeClearFlags, fields]
    exact if_pos ⟨decide_eq_true kinds, extra⟩
  · refine exec_askCommand_refused (c := .clearFlags) (r := .badValue) listening mine short right nofun rfl ?_
    rw [askEffect, takeClearFlags, fields]
    refine if_neg fun ⟨kinds, extra⟩ => ?_
    have few : named < 2097152 := of_decide_eq_true kinds
    have least : z.toNat ≤ 3 := extra
    omega

/-! ### Records in answers -/

/-- A mark as a number. -/
def markValue (b : Bool) : Nat := if b then 1 else 0

/-- The nine TOTE fields as numbers (R162). -/
def toteValues (t : ToteFields) : List Nat :=
  [t.tag.toNat / 256, t.tag.toNat, t.order.toNat / 256, t.order.toNat, (t.dest.map (·.val)).getD 255, t.cls.val, t.seq,
    t.count, t.refusals, t.source.toNat, markValue t.adjusted]

theorem toteBytes_eq (t : ToteFields) : toteBytes t = (toteValues t).map (BitVec.ofNat 8) := by
  have dest : destByte t.dest = BitVec.ofNat 8 ((t.dest.map (·.val)).getD 255) := by cases t.dest <;> rfl
  have source : [t.source] = [BitVec.ofNat 8 t.source.toNat] := by rw [byte_ofNat_toNat]
  rw [toteBytes, dest, source]
  rfl

theorem laneRecordBytes_eq (r : LaneRecord) :
    laneRecordBytes r = (toteValues r.tote ++ [markValue r.carried]).map (BitVec.ofNat 8) := by
  rw [laneRecordBytes, toteBytes_eq, List.map_append]
  rfl

theorem answered_of_room (a : Ask) (code result : Nat) (clamped : Bool) (fields : List Nat) {t : State}
    (room : t.line.localQueue.length < 8) :
    let l : LinePort := { t.line with localQueue := t.line.localQueue ++
      [{ kind := .answer, target := 0, source := BitVec.ofNat 8 t.line.position.val, tag := a.tag
         payload := (code :: result :: (if clamped then 1 else 0) :: fields).map (BitVec.ofNat 8) }] }
    answered a code result clamped fields t = { t with line := if l.sending.isNone then pick l else l } := by
  intro l
  have free : localFull t.line = false := by
    rw [Bool.eq_false_iff, ne_eq, localFull_iff]
    omega
  unfold answered queueAnswer localJoin
  rw [free, Bool.or_false]
  rfl

theorem answered_of_full (a : Ask) (code result : Nat) (clamped : Bool) (fields : List Nat) {t : State}
    (full : 8 ≤ t.line.localQueue.length) :
    answered a code result clamped fields t = { t with report := { t.report with lost := true } } := by
  unfold answered queueAnswer localJoin
  rw [(localFull_iff _).mpr full, Bool.or_true]
  rfl

theorem zonesFrom_eq (l : Lane) (first : Nat) :
    zonesFrom l first = ([first, first + 1].filter (· ≤ l.zoneCount)).map (zone l) := by
  unfold zonesFrom
  by_cases this : first ≤ l.zoneCount <;> by_cases next : first + 1 ≤ l.zoneCount <;> simp [this, next]

theorem laneReply_of_zones {fs : List Byte} {l : Lane} (part : field1 fs 0 = 0) (some : field1 fs 1 ≠ 0) :
    laneReply fs l = okay false (bytes1 l.state.code ++ bytes1 l.zoneCount ++ bytes1 (zonesFrom l (field1 fs 1)).length ++
      (zonesFrom l (field1 fs 1)).flatMap zoneBytes) := by
  simp only [laneReply, part, if_neg some]

theorem laneReply_of_listed {fs : List Byte} {l : Lane} {r : InboundRecord} (part : field1 fs 0 = 1)
    (there : l.inbound[field1 fs 1]? = some r) :
    laneReply fs l =
      okay false (bytes1 l.inbound.length ++ (bytes1 1 ++ laneRecordBytes r.record ++ bytes3 r.deadline.toNat)) := by
  simp only [laneReply, part, there]

theorem laneReply_of_unlisted {fs : List Byte} {l : Lane} (part : field1 fs 0 = 1) (none : l.inbound[field1 fs 1]? = .none) :
    laneReply fs l = okay false (bytes1 l.inbound.length ++ bytes1 0) := by
  simp only [laneReply, part, none]

theorem laneReply_of_unknown {fs : List Byte} {l : Lane} (part : field1 fs 0 = 0 ∧ field1 fs 1 = 0 ∨ 1 < field1 fs 0) :
    laneReply fs l = refusal .badValue := by
  rcases part with ⟨zones, zero⟩ | high
  · simp only [laneReply, zones, zero, if_true]
  · unfold laneReply
    split
    · omega
    · omega
    · rfl

/-- Settles O46: each read's reply as the bytes of its numbers, and how an answer joins. -/
theorem readsAnswerTheirRecords : Obligations.ReadsAnswerTheirRecords := by
  intro a s listening mine mark tote pos inbound
  refine ⟨fun code result clamped fields t => ⟨answered_of_room a code result clamped fields, answered_of_full a code result clamped fields⟩,
    fun empty => ?_, fun first part fields => ?_, fun part first fields => ?_⟩
  · have short : a.fields.length < 32 := by rw [empty]; exact (by decide : 0 < 32)
    have right : (a.fields.length == 0) = true := by rw [empty]; rfl
    refine ⟨exec_askCommand_ok (c := .readStatus) listening mine short right nofun rfl ?_,
      exec_askCommand_ok (c := .readIdentity) listening mine short right nofun rfl rfl,
      exec_askCommand_ok (c := .readReservations) listening mine short right nofun rfl ?_⟩
    · refine congrArg (fun fields => (s, okay false fields)) ?_
      simp only [statusRecord, bytes1, bytes2, bytes3, setBytes, bytesBool, pos, mark, List.map_cons, List.map_nil,
        List.cons_append, List.nil_append]
    · rw [askEffect, reservationsReply, List.map_cons, List.map_flatMap]
      rfl
  · intro records
    have short : a.fields.length < 32 := by rw [fields]; exact (by decide : 2 < 32)
    have right : (a.fields.length == 2) = true := by rw [fields]; rfl
    have reply : trackingReply a.fields s.tracking = if part.toNat ≤ 1 then
        okay false (bytes1 s.tracking.queue.length ++ bytes1 records.length ++ records.flatMap (trackBytes (part.toNat == 1)))
      else refusal .badValue := by rw [fields]; rfl
    by_cases known : part.toNat ≤ 1
    · rw [if_pos known]
      refine exec_askCommand_ok (c := .readTracking) listening mine short right nofun rfl ?_
      have bytes : trackBytes (part.toNat == 1) = fun r =>
          (if part = 0 then tote r.tote else pos r.expected ++ pos r.windowStart ++ pos r.windowEnd).map (BitVec.ofNat 8) := by
        funext r
        by_cases zero : part = 0
        · rw [zero, if_pos rfl]
          exact toteBytes_eq r.tote
        · have one : part.toNat = 1 := by
            have some : part.toNat ≠ 0 := fun h => zero (BitVec.eq_of_toNat_eq h)
            omega
          rw [one, if_neg zero]
          rfl
      rw [askEffect, reply, if_pos known, List.map_cons, List.map_cons, List.map_flatMap]
      rw [bytes]
      rfl
    · rw [if_neg known]
      refine exec_askCommand_refused (c := .readTracking) (r := .badValue) listening mine short right nofun rfl ?_
      rw [askEffect, reply, if_neg known]
  · intro zones
    have short : a.fields.length < 32 := by rw [fields]; exact (by decide : 2 < 32)
    have right : (a.fields.length == 2) = true := by rw [fields]; rfl
    have partOf : field1 a.fields 0 = part.toNat := by rw [fields]; rfl
    have firstOf : field1 a.fields 1 = first.toNat := by rw [fields]; rfl
    by_cases zoned : part = 0 ∧ first ≠ 0
    · obtain ⟨rfl, nonzero⟩ := zoned
      have counted : field1 a.fields 1 ≠ 0 := by rw [firstOf]; exact fun h => nonzero (BitVec.eq_of_toNat_eq h)
      rw [if_pos ⟨rfl, nonzero⟩]
      refine exec_askCommand_ok (c := .readLane) listening mine short right nofun rfl ?_
      have bytes : zoneBytes = fun z =>
          ((match z.state with
              | .empty => 0 | .filling => 1 | .held => 2 | .passing => if z.record = none then 4 else 3) ::
            (match z.record with
              | some r => tote r.tote ++ [mark r.carried]
              | none => List.replicate 12 0)).map (BitVec.ofNat 8) := by
        funext ⟨state, record, partEnded, timer⟩
        cases record with
        | none => cases state <;> rfl
        | some r =>
          have values := laneRecordBytes_eq r
          cases state <;> exact congrArg (_ :: ·) values
      rw [askEffect, laneReply_of_zones partOf counted, firstOf, zonesFrom_eq, List.map_cons, List.map_cons,
        List.map_cons, List.map_flatMap, bytes]
      rfl
    · rw [if_neg zoned]
      by_cases listed : part = 1
      · subst listed
        rw [if_pos rfl]
        refine exec_askCommand_ok (c := .readLane) listening mine short right nofun rfl ?_
        rw [askEffect]
        cases there : s.lane.inbound[first.toNat]? with
        | none =>
          rw [laneReply_of_unlisted partOf (by rw [firstOf, there])]
          simp only [inbound, there]
          rfl
        | some r =>
          rw [laneReply_of_listed partOf (by rw [firstOf, there]), laneRecordBytes_eq]
          simp only [inbound, there, List.map_cons, List.map_append, List.append_assoc]
          rfl
      · rw [if_neg listed]
        refine exec_askCommand_refused (c := .readLane) (r := .badValue) listening mine short right nofun rfl ?_
        have unknown : field1 a.fields 0 = 0 ∧ field1 a.fields 1 = 0 ∨ 1 < field1 a.fields 0 := by
          rw [partOf, firstOf]
          by_cases zero : part = 0
          · exact .inl ⟨zero ▸ rfl, by_contra fun h => zoned ⟨zero, fun e => h (e ▸ rfl)⟩⟩
          · have not0 : part.toNat ≠ 0 := fun h => zero (BitVec.eq_of_toNat_eq h)
            have not1 : part.toNat ≠ 1 := fun h => listed (BitVec.eq_of_toNat_eq h)
            omega
        rw [askEffect, laneReply_of_unknown unknown]

end Sys2Proof.Machine
end

section
/-! SUPPORT. The geometry and the line settings as they are applied and answered: the clamped values, the CLAMPED mark, and the eye that a new
polarity reads anew (sections 1.7, 2.9, 3.6, 5.8 and 6.2). -/

namespace Sys2Proof.Machine

/-! ### Settings as bytes -/

theorem ofNat_mod_byte (n : Nat) : BitVec.ofNat 8 (n % 256) = BitVec.ofNat 8 n :=
  BitVec.eq_of_toNat_eq (by rw [BitVec.toNat_ofNat, BitVec.toNat_ofNat]; omega)

theorem bytes2_values (n : Nat) : bytes2 n = [n / 256 % 256, n % 256].map (BitVec.ofNat 8) := by
  simp only [bytes2, List.map_cons, List.map_nil, ofNat_mod_byte]

theorem bytes3_values (n : Nat) : bytes3 n = [n / 65536 % 256, n / 256 % 256, n % 256].map (BitVec.ofNat 8) := by
  simp only [bytes3, List.map_cons, List.map_nil, ofNat_mod_byte]

/-- The bytes of small numbers are those that were sent exactly when the numbers are. -/
theorem bytes_ne_iff {values : List Nat} (small : ∀ v ∈ values, v < 256) (fs : List Byte) :
    (values.map (BitVec.ofNat 8) != fs) = true ↔ values ≠ fs.map BitVec.toNat := by
  have back : (values.map (BitVec.ofNat 8)).map BitVec.toNat = values := by
    rw [List.map_map]
    exact (List.map_congr_left fun v among => Nat.mod_eq_of_lt (small v among)).trans (List.map_id values)
  have forth : (fs.map BitVec.toNat).map (BitVec.ofNat 8) = fs := by
    rw [List.map_map]
    exact (List.map_congr_left fun b _ => byte_ofNat_toNat b).trans (List.map_id fs)
  rw [bne_iff_ne, not_iff_not]
  exact ⟨fun same => by rw [← same, back], fun same => by rw [same, forth]⟩

theorem byte_eq_zero_iff (b : Byte) : b = 0 ↔ b.toNat = 0 := ⟨fun h => h ▸ rfl, fun h => BitVec.eq_of_toNat_eq h⟩

theorem byte_eq_one_iff (b : Byte) : b = 1 ↔ b.toNat = 1 := ⟨fun h => h ▸ rfl, fun h => BitVec.eq_of_toNat_eq h⟩

/-! ### The geometry -/

/-- The descriptor with its format version as the answer's numbers (R92). -/
def geometryValues (g : Geometry) : List Nat :=
  [1, g.eyeToPaddle / 256 % 256, g.eyeToPaddle % 256, g.throwTime, g.throwFloor, g.margin, g.returnTime, g.returnFloor, g.grace,
    g.holdDuty]

theorem geometryBytes_eq (g : Geometry) : geometryBytes g = (geometryValues g).map (BitVec.ofNat 8) := by
  rw [geometryBytes, bytes2_values]
  rfl

/-- Settles O47: the descriptor of the ask after clamping, and the mark where a number has changed. -/
theorem geometryIsReplaced : Obligations.GeometryIsReplaced := by
  intro a s version e0 e1 throw floor margin home homeFloor grace duty listening mine fields e g
  have short : a.fields.length < 32 := by rw [fields]; exact (by decide : 10 < 32)
  have right : (a.fields.length == 10) = true := by rw [fields]; rfl
  have format : field1 a.fields 0 = version.toNat := by rw [fields]; rfl
  have e0Small := e0.isLt
  have e1Small := e1.isLt
  have throwSmall := throw.isLt
  have floorSmall := floor.isLt
  have marginSmall := margin.isLt
  have homeSmall := home.isLt
  have homeFloorSmall := homeFloor.isLt
  have graceSmall := grace.isLt
  have dutySmall := duty.isLt
  have taken : geometryOf a.fields = g := by
    have arrival : clamp 0 4095 e = min e 4095 := Nat.zero_max _
    have throws : clamp 1 255 throw.toNat = max 1 throw.toNat := by unfold clamp; omega
    have returns : clamp 1 255 home.toNat = max 1 home.toNat := by unfold clamp; omega
    rw [fields]
    show (⟨clamp 0 4095 e, clamp 1 255 throw.toNat, floor.toNat, margin.toNat, clamp 1 255 home.toNat, homeFloor.toNat, grace.toNat,
      clamp 1 16 duty.toNat⟩ : Geometry) = g
    rw [arrival, throws, returns]
    rfl
  by_cases known : version = 1
  · rw [if_pos known]
    have mark : (geometryBytes g != a.fields) = decide (4095 < e ∨ throw = 0 ∨ home = 0 ∨ duty = 0 ∨ 16 < duty.toNat) := by
      have small : ∀ v ∈ geometryValues g, v < 256 := by
        simp only [geometryValues, List.mem_cons, List.not_mem_nil, or_false, forall_eq_or_imp, forall_eq, g]
        omega
      rw [Bool.eq_iff_iff, decide_eq_true_iff, geometryBytes_eq, bytes_ne_iff small, fields]
      simp only [geometryValues, List.map_cons, List.map_nil, ne_eq, List.cons.injEq, and_true, true_and, byte_eq_zero_iff, g, e]
      have one := (byte_eq_one_iff version).mp known
      omega
    refine exec_askCommand_ok (c := .setGeometry) listening mine short right nofun rfl ?_
    rw [askEffect, takeGeometry, format, taken, ← mark]
    refine (congrArg (fun p : Diverter × Reply => ({ s with diverter := p.1 }, p.2)) (if_pos ((byte_eq_one_iff version).mp known))).trans ?_
    rfl
  · rw [if_neg known]
    refine exec_askCommand_refused (c := .setGeometry) (r := .badFormat) listening mine short right nofun rfl ?_
    rw [askEffect, takeGeometry, format]
    exact congrArg (fun p : Diverter × Reply => ({ s with diverter := p.1 }, p.2))
      (if_neg fun h => known ((byte_eq_one_iff version).mpr h))

/-! ### The codes of SET LINE -/

theorem edgeOfCode_of_le {n : Nat} (known : n ≤ 2) : ∃ edge, edgeOfCode n = some edge ∧ edge.code = n := by
  interval_cases n
  · exact ⟨.rising, rfl, rfl⟩
  · exact ⟨.falling, rfl, rfl⟩
  · exact ⟨.both, rfl, rfl⟩

theorem edgeOfCode_of_gt {n : Nat} (unknown : 2 < n) : edgeOfCode n = none := by
  obtain ⟨m, rfl⟩ := Nat.exists_eq_add_of_lt unknown
  rw [show 2 + m + 1 = m + 3 by omega]
  rfl

theorem gateOfCode_of_le {n : Nat} (known : n ≤ 3) : ∃ gate, gateOfCode n = some gate ∧ gate.code = n := by
  interval_cases n
  · exact ⟨.ms32, rfl, rfl⟩
  · exact ⟨.ms64, rfl, rfl⟩
  · exact ⟨.ms128, rfl, rfl⟩
  · exact ⟨.ms256, rfl, rfl⟩

theorem gateOfCode_of_gt {n : Nat} (unknown : 3 < n) : gateOfCode n = none := by
  obtain ⟨m, rfl⟩ := Nat.exists_eq_add_of_lt unknown
  rw [show 3 + m + 1 = m + 4 by omega]
  rfl

theorem polarityOfCode_of_le {n : Nat} (known : n ≤ 1) : ∃ polarity, polarityOfCode n = some polarity ∧ polarity.code = n := by
  interval_cases n
  · exact ⟨.blockedLow, rfl, rfl⟩
  · exact ⟨.blockedHigh, rfl, rfl⟩

theorem polarityOfCode_of_gt {n : Nat} (unknown : 1 < n) : polarityOfCode n = none := by
  obtain ⟨m, rfl⟩ := Nat.exists_eq_add_of_lt unknown
  rw [show 1 + m + 1 = m + 2 by omega]
  rfl

theorem gateLength_code_inj (g h : GateLength) : g = h ↔ h.code = g.code := by
  cases g <;> cases h <;> decide

theorem eyePolarity_code_inj (p q : EyePolarity) : p = q ↔ q.code = p.code := by
  cases p <;> cases q <;> decide

theorem takeLine_of_unknown {fs : List Byte} {s : State} (unknown : 2 < field1 fs 0 ∨ 3 < field1 fs 1 ∨ 1 < field1 fs 2) :
    takeLine fs s = (s, refusal .badValue) := by
  rcases unknown with edge | gate | polarity
  · simp only [takeLine, edgeOfCode_of_gt edge]
  · cases edge : edgeOfCode (field1 fs 0) <;> simp only [takeLine, edge, gateOfCode_of_gt gate]
  · cases edge : edgeOfCode (field1 fs 0) <;> cases gate : gateOfCode (field1 fs 1) <;>
      simp only [takeLine, edge, gate, polarityOfCode_of_gt polarity]

/-! ### The eye under a new polarity -/

/-- The settings of the Eye Unit (Table 2-1). -/
structure SameEyeSettings (d e : Eye) : Prop where
  polarity : e.polarity = d.polarity
  debounce : e.debounce = d.debounce
  maxLength : e.maxLength = d.maxLength
  nominal : e.nominal = d.nominal
  tolerance : e.tolerance = d.tolerance

theorem sampledEye_settings (now : Pos) (level : Bool) (e : Eye) : SameEyeSettings e (sampledEye now level e) := by
  unfold sampledEye
  split <;> exact ⟨rfl, rfl, rfl, rfl, rfl⟩

theorem sampledEye_of_blocked {now : Pos} {level : Bool} {e : Eye} (blocked : readsBlocked e.polarity level = true) :
    sampledEye now level e = { clearedEye e with
      state := .blocked, blockedDeadline := some ⟨plus now e.maxLength, e.maxLength⟩, context := .noLead } := if_pos blocked

theorem sampledEye_of_clear {now : Pos} {level : Bool} {e : Eye} (clear : readsBlocked e.polarity level = false) :
    sampledEye now level e = clearedEye e := if_neg (by rw [clear]; exact Bool.false_ne_true)

/-- A new polarity reads the eye anew and delivers the trailing position of a tote that calls for it (R26). -/
theorem polarityChanged_eq {s : State} (agrees : EyeAgrees s.eye) :
    polarityChanged s = { s with
      eye := sampledEye s.belt.pos s.pins.eye s.eye
      diverter := if deliversTrail s.eye.context then (trailingTaken (s.eye.clearing.getD s.belt.pos) s).diverter
        else s.diverter } := by
  obtain ⟨clearing, -, empty, -, -⟩ := agrees
  have delivered : ∀ trail, deliverTrail trail s =
      { s with diverter := if deliversTrail s.eye.context then (trailingTaken trail s).diverter else s.diverter } := fun trail => by
    unfold deliverTrail
    split
    next => exact trailingTaken_eq trail s
    next => rfl
  unfold polarityChanged endedTrail
  cases state : s.eye.state with
  | clear =>
    have none : deliversTrail s.eye.context = false := by rw [empty.mp state]; rfl
    simp only [none, Bool.false_eq_true, if_false]
  | blocked =>
    have still : s.eye.clearing = none := by
      rw [← Option.not_isSome_iff_eq_none, clearing, state]
      nofun
    simp only [delivered, still, Option.getD_none]
  | clearing => simp only [delivered]

/-- A trailing position at the diverter reads the belt and the diverter alone (R94, R101). -/
theorem trailingTaken_congr {s t : State} (belt : t.belt = s.belt) (diverter : t.diverter = s.diverter) (trail : Pos) :
    (trailingTaken trail t).diverter = (trailingTaken trail s).diverter := by
  unfold trailingTaken returnLead
  simp only [belt, diverter]
  split
  · rfl
  · rfl
  all_goals split <;> rfl

end Sys2Proof.Machine
end

section
/-! SUPPORT. SET LINE: the settings in force after clamping, the CLAMPED mark, and the tote that a new polarity ends (sections 1.7, 2.9, 3.6,
5.8 and 10.3). -/

namespace Sys2Proof.Machine

/-! ### The settings as numbers -/

/-- The settings of SET LINE in force as the answer's numbers (R164). -/
def lineValues (t : State) : List Nat :=
  [t.belt.edgeSelect.code, t.belt.gate.code, t.eye.polarity.code, t.eye.debounce, t.eye.maxLength / 256 % 256,
    t.eye.maxLength % 256] ++
  ((List.finRange 4).flatMap fun c => [t.eye.nominal.get c / 256 % 256, t.eye.nominal.get c % 256]) ++
  [t.eye.tolerance / 256 % 256, t.eye.tolerance % 256, t.tracking.upstream / 256 % 256,
    t.tracking.upstream % 256, t.tracking.early / 256 % 256, t.tracking.early % 256,
    t.tracking.late / 256 % 256, t.tracking.late % 256, t.admission.refusalLimit,
    t.admission.span / 65536 % 256, t.admission.span / 256 % 256, t.admission.span % 256]

theorem toList_eq_map_get {α : Type} (v : Vector α 4) : v.toList = (List.finRange 4).map v.get := by
  apply List.ext_getElem
  · simp only [Vector.length_toList, List.length_map, List.length_finRange]
  · intro i _ _
    simp only [Vector.getElem_toList, List.getElem_map, List.getElem_finRange]
    rfl

theorem lineBytes_eq (t : State) : lineBytes t = (lineValues t).map (BitVec.ofNat 8) := by
  simp only [lineBytes, lineValues, toList_eq_map_get, bytes2_values, bytes3_values, bytes1, List.flatMap_map, List.map_append,
    List.map_flatMap, List.map_cons, List.map_nil, List.append_assoc, List.cons_append, List.nil_append]

theorem map_toNat_eq_range {fs : List Byte} {n : Nat} (length : fs.length = n) :
    fs.map BitVec.toNat = (List.range n).map fun i => (fs.getD i 0).toNat := by
  apply List.ext_getElem
  · simp only [List.length_map, List.length_range, length]
  · intro i low _
    rw [List.length_map] at low
    simp only [List.getElem_map, List.getElem_range, List.getD_eq_getElem _ _ low]

/-- Settings whose codes, debounce and refusal limit are bytes are answered as they stand (R164). -/
theorem lineValues_small {t : State} (debounce : t.eye.debounce < 256) (limit : t.admission.refusalLimit < 256) :
    ∀ v ∈ lineValues t, v < 256 := by
  have edge : t.belt.edgeSelect.code < 256 := by cases t.belt.edgeSelect <;> decide
  have gate : t.belt.gate.code < 256 := by cases t.belt.gate <;> decide
  have polarity : t.eye.polarity.code < 256 := by cases t.eye.polarity <;> decide
  have rest : ∀ n : Nat, n % 256 < 256 := fun n => Nat.mod_lt n (by decide)
  intro v among
  simp only [lineValues, List.mem_append, List.mem_flatMap, List.mem_cons, List.not_mem_nil, or_false] at among
  rcases among with (h | ⟨c, -, h⟩) | h
  · rcases h with rfl | rfl | rfl | rfl | rfl | rfl <;> simp only [edge, gate, polarity, debounce, rest]
  · rcases h with rfl | rfl <;> exact rest _
  · rcases h with rfl | rfl | rfl | rfl | rfl | rfl | rfl | rfl | rfl | rfl | rfl | rfl <;> simp only [limit, rest]

/-! ### The settings applied -/

/-- What SET LINE applies under codes it knows (R164). -/
def lineApplied (fs : List Byte) (edge : EdgeSelect) (gate : GateLength) (polarity : EyePolarity) (s : State) : State :=
  if polarity = s.eye.polarity then lineSettings fs edge gate polarity s else polarityChanged (lineSettings fs edge gate polarity s)

section applied
variable (fs : List Byte) (edge : EdgeSelect) (gate : GateLength) (polarity : EyePolarity) (s : State)

theorem takeLine_of_codes {fs : List Byte} {edge : EdgeSelect} {gate : GateLength} {polarity : EyePolarity} (s : State)
    (edgeKnown : edgeOfCode (field1 fs 0) = some edge) (gateKnown : gateOfCode (field1 fs 1) = some gate)
    (polarityKnown : polarityOfCode (field1 fs 2) = some polarity) :
    takeLine fs s = (lineApplied fs edge gate polarity s,
      okay (lineBytes (lineSettings fs edge gate polarity s) != fs) (lineBytes (lineSettings fs edge gate polarity s))) := by
  rw [takeLine, edgeKnown, gateKnown, polarityKnown]
  rfl

theorem eyeAgrees_lineSettings {s : State} (agrees : EyeAgrees s.eye) :
    EyeAgrees (lineSettings fs edge gate polarity s).eye := agrees

/-- A change of the polarity works on the settings just applied: on the eye and the diverter alone (R26). -/
theorem lineApplied_eq {s : State} (agrees : EyeAgrees s.eye) :
    lineApplied fs edge gate polarity s = { lineSettings fs edge gate polarity s with
      eye := (lineApplied fs edge gate polarity s).eye
      diverter := (lineApplied fs edge gate polarity s).diverter } := by
  unfold lineApplied
  split
  · rfl
  · rw [polarityChanged_eq (eyeAgrees_lineSettings fs edge gate polarity agrees)]

theorem lineApplied_eyeSettings {s : State} (agrees : EyeAgrees s.eye) :
    SameEyeSettings (lineSettings fs edge gate polarity s).eye (lineApplied fs edge gate polarity s).eye := by
  unfold lineApplied
  split
  · exact ⟨rfl, rfl, rfl, rfl, rfl⟩
  · rw [polarityChanged_eq (eyeAgrees_lineSettings fs edge gate polarity agrees)]
    exact sampledEye_settings _ _ _

theorem lineBelt_eq (b : Belt) :
    lineBelt edge gate b = { b with
      edgeSelect := (lineBelt edge gate b).edgeSelect, gate := (lineBelt edge gate b).gate
      acc := if b.gate.code = gate.code then b.acc else 0
      timer := if b.gate.code = gate.code then b.timer else 0 } := by
  unfold lineBelt
  by_cases same : gate = b.gate
  · rw [if_pos same, if_pos ((gateLength_code_inj _ _).mp same), if_pos ((gateLength_code_inj _ _).mp same)]
  · rw [if_neg same, if_neg fun h => same ((gateLength_code_inj _ _).mpr h), if_neg fun h => same ((gateLength_code_inj _ _).mpr h)]

theorem lineBelt_codes (b : Belt) : (lineBelt edge gate b).edgeSelect = edge ∧ (lineBelt edge gate b).gate = gate := by
  unfold lineBelt
  by_cases same : gate = b.gate
  · rw [if_pos same]
    exact ⟨rfl, same.symm⟩
  · rw [if_neg same]
    exact ⟨rfl, rfl⟩

theorem clamp_zero (hi v : Nat) : clamp 0 hi v = min v hi := Nat.zero_max _

end applied

theorem sampledEye_positions (now : Pos) (level : Bool) (e : Eye) :
    ((sampledEye now level e).lead, (sampledEye now level e).clearing, (sampledEye now level e).debounceEnd) = (none, none, none) := by
  unfold sampledEye
  split <;> rfl

/-- A new polarity reads the eye anew under the settings just applied, and ends its tote at the diverter (R26). -/
theorem lineApplied_of_new_polarity (fs : List Byte) (edge : EdgeSelect) (gate : GateLength) {polarity : EyePolarity} {s : State}
    (agrees : EyeAgrees s.eye) (new : polarity ≠ s.eye.polarity) :
    (lineApplied fs edge gate polarity s).eye = sampledEye s.belt.pos s.pins.eye (lineEye fs polarity s.eye) ∧
    (lineApplied fs edge gate polarity s).diverter =
      if deliversTrail s.eye.context then
        (trailingTaken (s.eye.clearing.getD s.belt.pos) { s with belt := lineBelt edge gate s.belt }).diverter
      else s.diverter := by
  have pos : (lineBelt edge gate s.belt).pos = s.belt.pos := by rw [lineBelt_eq]
  rw [lineApplied, if_neg new, polarityChanged_eq (eyeAgrees_lineSettings fs edge gate polarity agrees)]
  constructor
  · exact congrArg (fun now => sampledEye now s.pins.eye (lineEye fs polarity s.eye)) pos
  · refine (if_congr Iff.rfl ?_ rfl)
    rw [← pos]
    exact trailingTaken_congr (s := { s with belt := lineBelt edge gate s.belt }) (t := lineSettings fs edge gate polarity s) rfl rfl _

/-- Settles O48: the settings applied are those of the ask after clamping, and a new polarity ends the tote under them. -/
theorem lineSettingsAreApplied : Obligations.LineSettingsAreApplied := by
  intro a s listening mine length agrees f1 f2 within
  have short : a.fields.length < 32 := by rw [length]; exact (by decide : 26 < 32)
  have right : (a.fields.length == 26) = true := by rw [length]; rfl
  refine ⟨fun unknown => ?_, fun edgeCode gateCode polarityCode => ?_⟩
  · refine exec_askCommand_refused (c := .setLine) (r := .badValue) listening mine short right nofun rfl ?_
    exact takeLine_of_unknown unknown
  obtain ⟨edge, edgeKnown, edgeIs⟩ := edgeOfCode_of_le edgeCode
  obtain ⟨gate, gateKnown, gateIs⟩ := gateOfCode_of_le gateCode
  obtain ⟨polarity, polarityKnown, polarityIs⟩ := polarityOfCode_of_le polarityCode
  have settings := lineApplied_eyeSettings a.fields edge gate polarity agrees
  have whole := lineApplied_eq a.fields edge gate polarity agrees
  have belt := congrArg State.belt whole
  have tracking := congrArg State.tracking whole
  have admission := congrArg State.admission whole
  have rest := congrArg (fun t : State => (t.plan, t.lane, t.counter, t.line, t.report, t.pins, t.resetLow, t.pending)) whole
  obtain ⟨edgeTaken, gateTaken⟩ := lineBelt_codes edge gate s.belt
  have debounceSmall : clamp 1 63 (field1 a.fields 3) < 256 := Nat.lt_of_le_of_lt (clamp_range (by decide) _).2 (by decide)
  have limitSmall : clamp 1 15 (field1 a.fields 22) < 256 := Nat.lt_of_le_of_lt (clamp_range (by decide) _).2 (by decide)
  have kept : polarity = s.eye.polarity ↔ s.eye.polarity.code = f1 2 := by
    rw [eyePolarity_code_inj]
    exact ⟨fun h => h.trans polarityIs, fun h => h.trans polarityIs.symm⟩
  refine ⟨lineApplied a.fields edge gate polarity s, lineValues (lineSettings a.fields edge gate polarity s),
    lineBytes (lineSettings a.fields edge gate polarity s) != a.fields, ?_, ?_, ?_, ?_, ?_, ?_, ?_, ?_, ?_, ?_, ?_, ?_, ?_, rest, ?_, ?_⟩
  · refine exec_askCommand_ok (c := .setLine) listening mine short right nofun rfl ?_
    rw [← lineBytes_eq]
    exact takeLine_of_codes s edgeKnown gateKnown polarityKnown
  · rw [belt]
    exact (congrArg EdgeSelect.code edgeTaken).trans edgeIs
  · rw [belt]
    exact (congrArg GateLength.code gateTaken).trans gateIs
  · rw [settings.polarity]
    exact polarityIs
  · rw [belt, ← show gate.code = f1 1 from gateIs]
    exact lineBelt_eq edge gate s.belt
  · exact settings.debounce.trans (clamp_eq_ite (by decide) _)
  · exact settings.maxLength.trans (clamp_eq_ite (by decide) _)
  · intro c
    rw [settings.nominal]
    fin_cases c <;> exact clamp_eq_ite (by decide) _
  · exact settings.tolerance.trans (clamp_zero _ _)
  · rw [tracking]
    have upstream : clamp 1 65535 (f2 16) = max 1 (f2 16) := by
      have high := (a.fields.getD 16 0).isLt
      have low := (a.fields.getD 17 0).isLt
      simp only [clamp, f2, f1]
      omega
    show lineTracking a.fields s.tracking = _
    rw [lineTracking, show clamp 1 65535 (field2 a.fields 16) = max 1 (f2 16) from upstream, clamp_zero, clamp_zero]
    rfl
  · rw [admission]
    show lineAdmission a.fields s.admission = _
    rw [lineAdmission, clamp_eq_ite (by decide), clamp_eq_ite (by decide)]
    rfl
  · rw [lineBytes_eq, bytes_ne_iff (lineValues_small debounceSmall limitSmall), map_toNat_eq_range length]
  · rw [settings.debounce, settings.maxLength, settings.nominal, settings.tolerance, tracking, admission]
    have edgeValue : (lineSettings a.fields edge gate polarity s).belt.edgeSelect.code = f1 0 :=
      (congrArg EdgeSelect.code edgeTaken).trans edgeIs
    have gateValue : (lineSettings a.fields edge gate polarity s).belt.gate.code = f1 1 :=
      (congrArg GateLength.code gateTaken).trans gateIs
    have polarityValue : (lineSettings a.fields edge gate polarity s).eye.polarity.code = f1 2 := polarityIs
    rw [lineValues, edgeValue, gateValue, polarityValue]
  · intro same
    rw [lineApplied, if_pos (kept.mpr same)]
    exact ⟨rfl, rfl⟩
  · intro new
    obtain ⟨eye, diverter⟩ := lineApplied_of_new_polarity a.fields edge gate agrees fun same => new (kept.mp same)
    rw [eye, belt]
    have sampled := sampledEye_settings s.belt.pos s.pins.eye (lineEye a.fields polarity s.eye)
    rw [sampled.polarity, sampled.maxLength]
    refine ⟨sampledEye_positions _ _ _, fun blocked => ?_, fun clear => ?_, diverter⟩
    · rw [sampledEye_of_blocked blocked]
      exact ⟨rfl, rfl⟩
    · rw [sampledEye_of_clear clear]
      rfl

end Sys2Proof.Machine
end

section
/-! SUPPORT. SET LANE: its refusals, its settings after clamping, a lane that stands or starts anew with EMPTY zones, and the rescan under a new
polarity (sections 5.6 and 7.8). -/

namespace Sys2Proof.Machine

/-! ### The structure and the numbers of the ask -/

theorem modeOfCode_of_le {mode : Byte} (known : mode.toNat ≤ 1) :
    modeOfCode mode.toNat = some (if mode = 0 then .tote else .order) ∧
      (if mode = 0 then ReleaseMode.tote else .order).code = mode.toNat := by
  by_cases zero : mode = 0
  · rw [if_pos zero, zero]
    exact ⟨rfl, rfl⟩
  · have one : mode.toNat = 1 := by
      have positive : mode.toNat ≠ 0 := fun h => zero ((byte_eq_zero_iff mode).mpr h)
      omega
    rw [if_neg zero, one]
    exact ⟨rfl, rfl⟩

theorem modeOfCode_of_gt {n : Nat} (unknown : 1 < n) : modeOfCode n = none := by
  obtain ⟨m, rfl⟩ := Nat.exists_eq_add_of_lt unknown
  rw [show 1 + m + 1 = m + 2 by omega]
  rfl

theorem polarityOfCode_of_byte {polarity : Byte} (known : polarity.toNat ≤ 1) :
    polarityOfCode polarity.toNat = some (if polarity = 0 then .blockedLow else .blockedHigh) ∧
      (if polarity = 0 then EyePolarity.blockedLow else .blockedHigh).code = polarity.toNat := by
  by_cases zero : polarity = 0
  · rw [if_pos zero, zero]
    exact ⟨rfl, rfl⟩
  · have one : polarity.toNat = 1 := by
      have positive : polarity.toNat ≠ 0 := fun h => zero ((byte_eq_zero_iff polarity).mpr h)
      omega
    rw [if_neg zero, one]
    exact ⟨rfl, rfl⟩

/-- The lane settings in force as the answer's numbers (Table 10-1). -/
def laneValues (l : Lane) : List Nat :=
  [l.zoneCount % 256, l.accepted.toNat, l.mode.code, l.transferLimit / 256 % 256, l.transferLimit % 256, l.dischargeLimit / 256 % 256,
    l.dischargeLimit % 256, l.entryDistance / 256 % 256, l.entryDistance % 256, l.polarity.code]

theorem laneBytes_eq (l : Lane) : laneBytes l = (laneValues l).map (BitVec.ofNat 8) := by
  simp only [laneBytes, laneValues, bytes1, bytes2_values, List.map_cons, List.map_nil, List.cons_append, List.nil_append, ofNat_mod_byte]

theorem laneValues_small (l : Lane) : ∀ v ∈ laneValues l, v < 256 := by
  have accepted : l.accepted.toNat < 16 := l.accepted.isLt
  have mode : l.mode.code < 256 := by cases l.mode <;> decide
  have polarity : l.polarity.code < 256 := by cases l.polarity <;> decide
  simp only [laneValues, List.mem_cons, List.not_mem_nil, or_false, forall_eq_or_imp, forall_eq]
  omega

theorem laneBusy_iff (fs : List Byte) (l : Lane) :
    laneBusy fs l = true ↔
      ¬ (field1 fs 0 = l.zoneCount ∧ field1 fs 1 = l.accepted.toNat) ∧ ¬ (held l = 0 ∧ l.inbound = []) := by
  simp only [laneBusy, Bool.and_eq_true, Bool.or_eq_true, bne_iff_ne, Bool.not_eq_true', List.isEmpty_eq_false_iff, ne_eq,
    Decidable.not_and_iff_or_not]

/-! ### The refusals and the settings -/

theorem takeLane_of_wrong {fs : List Byte} (s : State)
    (wrong : ¬ (laneStructure fs = true ∧ field1 fs 2 ≤ 1 ∧ field1 fs 9 ≤ 1)) : takeLane fs s = (s, refusal .badValue) := by
  unfold takeLane
  split
  · next modeKnown polarityKnown =>
    have structured : laneStructure fs = false := by
      by_contra right
      refine wrong ⟨Bool.eq_true_of_not_eq_false right, Nat.le_of_not_lt fun unknown => ?_, Nat.le_of_not_lt fun unknown => ?_⟩
      · rw [modeOfCode_of_gt unknown] at modeKnown
        cases modeKnown
      · rw [polarityOfCode_of_gt unknown] at polarityKnown
        cases polarityKnown
    exact if_pos (by rw [structured]; rfl)
  · rfl

section right
variable {fs : List Byte} {mode : ReleaseMode} {polarity : EyePolarity} {s : State} (structured : laneStructure fs = true)
  (modeKnown : modeOfCode (field1 fs 2) = some mode) (polarityKnown : polarityOfCode (field1 fs 9) = some polarity)
include structured modeKnown polarityKnown

theorem takeLane_of_busy (busy : laneBusy fs s.lane = true) : takeLane fs s = (s, refusal .badState) := by
  rw [takeLane, modeKnown, polarityKnown]
  exact (if_neg (by rw [structured]; exact Bool.false_ne_true)).trans (if_pos busy)

theorem takeLane_of_free (free : laneBusy fs s.lane = false) :
    takeLane fs s = (applyLane fs mode polarity s,
      okay (laneBytes (laneSettings fs mode polarity s.lane) != fs) (laneBytes (laneSettings fs mode polarity s.lane))) := by
  rw [takeLane, modeKnown, polarityKnown]
  exact (if_neg (by rw [structured]; exact Bool.false_ne_true)).trans (if_neg (by rw [free]; exact Bool.false_ne_true))

end right

/-! ### The lane after the settings -/

theorem trim_of_room {s : State} (room : RoomKept s) : trim s = s := by
  have none : roomSum s - s.lane.zoneCount = 0 := Nat.sub_eq_zero_of_le room
  have stands : ∀ rs : List Reservation, trimEntries 0 rs = (rs, []) := fun rs => by cases rs <;> rfl
  rw [trim, none, stands, List.reverse_reverse]
  rfl

/-- With Z and the polarity kept, or in JAMMED, the zones stand and nothing is left to do. -/
theorem applyLane_of_kept {fs : List Byte} {mode : ReleaseMode} {polarity : EyePolarity} {s : State} (rests : LaneRests s)
    (lit : LampTrue s) (room : RoomKept s) (same : field1 fs 0 = s.lane.zoneCount)
    (stands : polarity = s.lane.polarity ∨ s.lane.state = .jammed) :
    applyLane fs mode polarity s = { s with lane := laneSettings fs mode polarity s.lane } := by
  have zones : newZoneCount (field1 fs 0) s.lane = s.lane := if_pos same.symm
  have alike : ∀ k, zone (laneSettings fs mode polarity s.lane) k = zone s.lane k := fun k => rfl
  have roomKept : RoomKept { s with lane := laneSettings fs mode polarity s.lane } := by
    have records : held (laneSettings fs mode polarity s.lane) = held s.lane := held_of_zones same rfl
    have sum : roomSum { s with lane := laneSettings fs mode polarity s.lane } = roomSum s := by
      rw [roomSum, roomSum]
      exact congrArg (fun n => n + s.lane.inbound.length + reserved s.admission) records
    exact sum.le.trans (room.trans same.ge)
  have lamp : LampTrue { s with lane := laneSettings fs mode polarity s.lane } :=
    lit.trans (readyHolds_congr (l := s.lane) (m := laneSettings fs mode polarity s.lane) rfl same
      (congrArg Zone.state (alike _)) fun k _ => congrArg Zone.record (alike k)).symm
  have rest : LaneRests { s with lane := laneSettings fs mode polarity s.lane } :=
    rests.congr (fun k _ => congrArg Zone.state (alike k)) same rfl id
  rw [applyLane, if_pos stands, zones, trim_of_room roomKept, evalReady_of_lampTrue lamp, settleLane_of_rests rest]

theorem zone_of_emptyZones {l : Lane} (zones : l.zones = Vector.replicate 8 emptyZone) (k : Nat) : zone l k = emptyZone := by
  rw [zone, zones]
  by_cases inside : k - 1 < 8 <;> simp [Vector.getD, inside]

/-- A lane without a record has nothing to do of itself. -/
theorem laneRests_of_emptyZones {s : State} (zones : s.lane.zones = Vector.replicate 8 emptyZone) (none : s.lane.inbound = []) :
    LaneRests s := by
  refine ⟨fun _ => none, fun filling => ?_, fun _ k _ _ ⟨stands, _⟩ => ?_⟩
  · rw [zone_of_emptyZones zones] at filling
    cases filling
  · rw [zone_of_emptyZones zones] at stands
    cases stands

theorem readyHolds_of_emptyZones {l : Lane} (zones : l.zones = Vector.replicate 8 emptyZone) : readyHolds l = false :=
  readyHolds_of_not_held (by rw [zone_of_emptyZones zones]; nofun)

/-- The trim does not ask for the lamp, so a lamp that goes out after it may go out before. -/
theorem evalReady_trim_of_emptyZones {s : State} (zones : s.lane.zones = Vector.replicate 8 emptyZone) :
    evalReady (trim s) = trim { s with counter := { s.counter with readyLit := false } } := by
  have dark : readyHolds (trim s).lane = false := by
    rw [(trim_lane s).1]
    exact readyHolds_of_emptyZones zones
  rw [evalReady_of_dark dark, (trim_lane s).2]
  exact raiseAll_with_counter _ _ _ _

/-- Under a new Z all zones are EMPTY, the lamp is dark, and a loss of room is trimmed (R88, R131). -/
theorem applyLane_of_new_zones {fs : List Byte} {mode : ReleaseMode} {polarity : EyePolarity} {s : State}
    (new : field1 fs 0 ≠ s.lane.zoneCount) (none : s.lane.inbound = [])
    (stands : polarity = s.lane.polarity ∨ s.lane.state = .jammed) :
    applyLane fs mode polarity s = trim { s with
      lane := { laneSettings fs mode polarity s.lane with
        zones := Vector.replicate 8 emptyZone, discharge := Option.none, lateTimeout := false }
      counter := { s.counter with readyLit := false } } := by
  have zones : newZoneCount (field1 fs 0) s.lane =
      { s.lane with zones := Vector.replicate 8 emptyZone, discharge := Option.none, lateTimeout := false } := if_neg fun same => new same.symm
  have lane : laneSettings fs mode polarity
      { s.lane with zones := Vector.replicate 8 emptyZone, discharge := Option.none, lateTimeout := false } =
      { laneSettings fs mode polarity s.lane with
        zones := Vector.replicate 8 emptyZone, discharge := Option.none, lateTimeout := false } := rfl
  rw [applyLane, if_pos stands, zones, lane, evalReady_trim_of_emptyZones rfl]
  exact settleLane_of_rests (laneRests_of_emptyZones (by rw [(trim_lane _).1]) (by rw [(trim_lane _).1]; exact none))

theorem stopTimers_newLane (fs : List Byte) (mode : ReleaseMode) (polarity : EyePolarity) (l : Lane) :
    stopTimers (laneSettings fs mode polarity (newZoneCount (field1 fs 0) l)) = { laneSettings fs mode polarity l with
      zones :=
        if field1 fs 0 = l.zoneCount then l.zones.map fun q => { q with timer := none } else Vector.replicate 8 emptyZone
      discharge := none
      lateTimeout := false } := by
  by_cases same : field1 fs 0 = l.zoneCount
  · rw [newZoneCount, if_pos same.symm, if_pos same]
    rfl
  · have still : (Vector.replicate 8 emptyZone).map (fun q : Zone => { q with timer := none }) = Vector.replicate 8 emptyZone :=
      Vector.map_replicate
    rw [newZoneCount, if_neg fun h => same h.symm, if_neg same, stopTimers, laneSettings]
    dsimp only
    rw [still]
    rfl

/-- Under a new polarity outside JAMMED the timers stop, a discharge is cancelled, and the lane is rescanned (R132). -/
theorem applyLane_of_new_polarity {fs : List Byte} {mode : ReleaseMode} {polarity : EyePolarity} {s : State}
    (changes : polarity ≠ s.lane.polarity) (free : s.lane.state ≠ .jammed) :
    applyLane fs mode polarity s = rescanInPlace { s with
      lane := { laneSettings fs mode polarity s.lane with
        zones :=
          if field1 fs 0 = s.lane.zoneCount then s.lane.zones.map fun q => { q with timer := none }
          else Vector.replicate 8 emptyZone
        discharge := none
        lateTimeout := false }
      counter :=
        if s.counter.release = .discharging then
          { s.counter with release := .idle, group := none, count := 0, pressWaits := false }
        else s.counter } := by
  rw [applyLane, if_neg (not_or.mpr ⟨changes, free⟩)]
  exact congrArg (fun l => rescanInPlace { s with
    lane := l
    counter := if s.counter.release = .discharging then quietEnd s.counter else s.counter }) (stopTimers_newLane fs mode polarity s.lane)

/-- Settles O49: the refusals in their order, and the three ways in which the lane takes its new settings. -/
theorem laneSettingsAreApplied : Obligations.LaneSettingsAreApplied := by
  intro a s z classes mode t0 t1 d0 d1 e0 e1 polarity listening mine rests lit agrees room fields right sameRoom idle within
    transfer discharge entry settings numbers clamped done
  have short : a.fields.length < 32 := by rw [fields]; exact (by decide : 10 < 32)
  have length : (a.fields.length == 10) = true := by rw [fields]; rfl
  have zField : field1 a.fields 0 = z.toNat := by rw [fields]; rfl
  have classField : field1 a.fields 1 = classes.toNat := by rw [fields]; rfl
  have modeField : field1 a.fields 2 = mode.toNat := by rw [fields]; rfl
  have polarityField : field1 a.fields 9 = polarity.toNat := by rw [fields]; rfl
  have rightIff : right ↔ laneStructure a.fields = true ∧ field1 a.fields 2 ≤ 1 ∧ field1 a.fields 9 ≤ 1 := by
    rw [laneStructure_iff, zField, classField, modeField, polarityField]
    exact ⟨fun ⟨z2, z8, c1, c15, m, p⟩ => ⟨⟨z2, z8, c1, c15⟩, m, p⟩, fun ⟨⟨z2, z8, c1, c15⟩, m, p⟩ => ⟨z2, z8, c1, c15, m, p⟩⟩
  have settingsAre : laneSettings a.fields (if mode = 0 then .tote else .order)
      (if polarity = 0 then .blockedLow else .blockedHigh) s.lane = settings := by
    have limits : clamp 10 500 (field2 a.fields 3) = transfer ∧ clamp 10 500 (field2 a.fields 5) = discharge ∧
        clamp 1 4095 (field2 a.fields 7) = entry := by
      rw [fields]
      exact ⟨clamp_eq_ite (by decide) _, clamp_eq_ite (by decide) _, clamp_eq_ite (by decide) _⟩
    obtain ⟨transferIs, dischargeIs, entryIs⟩ := limits
    rw [laneSettings, zField, classField, transferIs, dischargeIs, entryIs]
  have applied : right → sameRoom ∨ idle → exec (.setLane a) s =
      done (applyLane a.fields (if mode = 0 then .tote else .order) (if polarity = 0 then .blockedLow else .blockedHigh) s) := by
    intro known free
    obtain ⟨structured, modeKnown, polarityKnown⟩ := rightIff.mp known
    rw [modeField] at modeKnown
    rw [polarityField] at polarityKnown
    obtain ⟨modeIs, modeCode⟩ := modeOfCode_of_le modeKnown
    obtain ⟨polarityIs, polarityCode⟩ := polarityOfCode_of_byte polarityKnown
    have quiet : laneBusy a.fields s.lane = false := by
      rw [Bool.eq_false_iff, ne_eq, laneBusy_iff, zField, classField]
      exact fun ⟨changes, busy⟩ => free.elim changes busy
    have acceptedIs : settings.accepted.toNat = classes.toNat := by
      rw [BitVec.toNat_ofNat]
      exact Nat.mod_eq_of_lt (Nat.lt_succ_of_le known.2.2.2.1)
    have answer : laneBytes settings = numbers.map (BitVec.ofNat 8) := by
      rw [laneBytes, acceptedIs, modeCode, polarityCode]
      rfl
    have mark : (laneBytes settings != a.fields) = clamped := by
      have zSmall := z.isLt
      have transferHigh := t0.isLt
      have transferLow := t1.isLt
      have dischargeHigh := d0.isLt
      have dischargeLow := d1.isLt
      have entryHigh := e0.isLt
      have entryLow := e1.isLt
      have transferSmall : transfer ≤ 500 := (clamp_eq_ite (lo := 10) (hi := 500) (by decide) _).symm.trans_le (clamp_range (by decide) _).2
      have dischargeSmall : discharge ≤ 500 := (clamp_eq_ite (lo := 10) (hi := 500) (by decide) _).symm.trans_le (clamp_range (by decide) _).2
      have entrySmall : entry ≤ 4095 := (clamp_eq_ite (lo := 1) (hi := 4095) (by decide) _).symm.trans_le (clamp_range (by decide) _).2
      rw [Bool.eq_iff_iff, decide_eq_true_iff, laneBytes_eq, bytes_ne_iff (laneValues_small _), laneValues, acceptedIs, modeCode,
        polarityCode, fields]
      simp only [List.map_cons, List.map_nil, ne_eq, List.cons.injEq, and_true, true_and]
      clear_value transfer discharge entry
      show ¬ (z.toNat % 256 = z.toNat ∧ transfer / 256 % 256 = t0.toNat ∧ transfer % 256 = t1.toNat ∧
        discharge / 256 % 256 = d0.toNat ∧ discharge % 256 = d1.toNat ∧ entry / 256 % 256 = e0.toNat ∧ entry % 256 = e1.toNat) ↔ _
      omega
    refine exec_askCommand_ok (c := .setLane) listening mine short length nofun rfl ?_
    rw [← mark, ← answer, ← settingsAre]
    exact takeLane_of_free structured (modeField ▸ modeIs) (polarityField ▸ polarityIs) quiet
  refine ⟨fun wrong => ?_, fun known changes busy => ?_, fun known same free stands => ?_, fun known new none stands => ?_,
    fun known free changes running => ?_⟩
  · refine exec_askCommand_refused (c := .setLane) (r := .badValue) listening mine short length nofun rfl ?_
    exact takeLane_of_wrong s fun h => wrong (rightIff.mpr h)
  · obtain ⟨structured, modeKnown, polarityKnown⟩ := rightIff.mp known
    refine exec_askCommand_refused (c := .setLane) (r := .badState) listening mine short length nofun rfl ?_
    rw [modeField] at modeKnown
    rw [polarityField] at polarityKnown
    refine takeLane_of_busy structured (modeField ▸ (modeOfCode_of_le modeKnown).1)
      (polarityField ▸ (polarityOfCode_of_byte polarityKnown).1) ?_
    rw [laneBusy_iff, zField, classField]
    exact ⟨changes, busy⟩
  · rw [applied known free, applyLane_of_kept rests lit room (zField.trans same) stands, settingsAre]
  · rw [applied known (.inr none), applyLane_of_new_zones (fun h => new (zField.symm.trans h)) none.2 stands, settingsAre]
  · rw [applied known free, applyLane_of_new_polarity changes running, settingsAre, zField]

end Sys2Proof.Machine
end

section
/-! SUPPORT. PAUSE LANE, RESUME LANE and CLEAR FAULT by the state they find (sections 6.9, 7.6, 7.7, 8.6 and 10.3). -/

namespace Sys2Proof.Machine

/-! ### Pause and resume -/

theorem takePause_of_running {s : State} (running : s.lane.state = .running) :
    takePause s = ({ s with
      lane := { s.lane with state := .paused }, counter := { pauseTaken s.counter with readyLit := false } }, okay false (bytes1 1)) := by
  have dark : readyHolds { s.lane with state := .paused } = false := readyHolds_of_not_running nofun
  rw [takePause, running]
  exact congrArg (fun t => (t, okay false (bytes1 1)))
    (evalReady_of_dark (s := { s with lane := { s.lane with state := .paused }, counter := pauseTaken s.counter }) dark)

theorem takePause_of_paused {s : State} (paused : s.lane.state = .paused) : takePause s = (s, okay false (bytes1 1)) := by
  rw [takePause, paused]
  rfl

theorem takePause_of_jammed {s : State} (jammed : s.lane.state = .jammed) : takePause s = (s, refusal .badState) := by
  rw [takePause, jammed]

theorem takeResume_of_running {s : State} (running : s.lane.state = .running) : takeResume s = (s, okay false (bytes1 0)) := by
  rw [takeResume, running]
  rfl

theorem takeResume_of_paused {s : State} (paused : s.lane.state = .paused) :
    takeResume s = (evalReady { s with lane := { s.lane with state := .running } }, okay false (bytes1 0)) := by
  rw [takeResume, paused]
  rfl

theorem takeResume_of_jammed {s : State} (jammed : s.lane.state = .jammed) : takeResume s = (s, refusal .badState) := by
  rw [takeResume, jammed]

/-! ### Clear fault -/

/-- Block 1 is the diverter, block 2 the lane, and block 3 both (R165). -/
theorem testBit_blocks {blocks : Byte} (low : 1 ≤ blocks.toNat) (high : blocks.toNat ≤ 3) :
    (blocks.toNat.testBit 0 = true ↔ blocks = 1 ∨ blocks = 3) ∧ (blocks.toNat.testBit 1 = true ↔ blocks = 2 ∨ blocks = 3) := by
  have named : blocks = 1 ∨ blocks = 2 ∨ blocks = 3 := by
    simp only [← BitVec.toNat_inj]
    show blocks.toNat = 1 ∨ blocks.toNat = 2 ∨ blocks.toNat = 3
    omega
  rcases named with rfl | rfl | rfl <;> decide

theorem takeClearFault_of_wrong {fs : List Byte} (s : State) (wrong : ¬ (1 ≤ field1 fs 0 ∧ field1 fs 0 ≤ 3)) :
    takeClearFault fs s = (s, refusal .badValue) := if_neg wrong

/-- Each block is worked on when it is named and in fault (R109, R129). -/
theorem takeClearFault_of_blocks {fs : List Byte} (s : State) {blocks : Byte} (named : field1 fs 0 = blocks.toNat)
    (low : 1 ≤ blocks.toNat) (high : blocks.toNat ≤ 3) {checked cleared : State}
    (diverter : checked = if (blocks = 1 ∨ blocks = 3) ∧ s.diverter.state = .fault then
      { s with diverter := homeCheck s.diverter } else s)
    (lane : cleared = if (blocks = 2 ∨ blocks = 3) ∧ s.lane.state = .jammed then rescanToRunning checked else checked) :
    takeClearFault fs s = (cleared, okay false (bytes1 cleared.diverter.state.code ++ bytes1 cleared.lane.state.code)) := by
  obtain ⟨first, second⟩ := testBit_blocks low high
  have diverterTaken : (if blocks.toNat.testBit 0 = true then clearDiverter s else s) = checked := by
    rw [diverter, clearDiverter, if_congr first rfl rfl]
    exact (ite_and _ _ _ _).symm
  have same : checked.lane = s.lane := by rw [← diverterTaken, clearDiverter]; split <;> [split <;> rfl; rfl]
  have laneTaken : (if blocks.toNat.testBit 1 = true then clearLane checked else checked) = cleared := by
    rw [lane, clearLane, same, if_congr second rfl rfl]
    exact (ite_and _ _ _ _).symm
  rw [takeClearFault, named]
  refine (if_pos ⟨low, high⟩).trans ?_
  rw [diverterTaken]
  exact congrArg (fun u : State => (u, okay false (bytes1 u.diverter.state.code ++ bytes1 u.lane.state.code))) laneTaken

/-- Settles O51: the three asks by the state they find. -/
theorem pauseResumeAndClearFault : Obligations.PauseResumeAndClearFault := by
  intro a s listening mine laneSet paused
  refine ⟨fun fields => ?_, fun blocks fields => ?_⟩
  · have short : a.fields.length < 32 := by rw [fields]; exact (by decide : 0 < 32)
    have length : (a.fields.length == 0) = true := by rw [fields]; rfl
    refine ⟨fun running => ⟨?_, ?_⟩, fun stopped => ⟨?_, ?_⟩, fun jammed => ⟨?_, ?_⟩⟩
    · refine exec_askCommand_ok (c := .pauseLane) listening mine short length nofun rfl ((takePause_of_running running).trans ?_)
      refine congrArg (fun c => (laneSet .paused c, okay false (bytes1 1))) ?_
      rw [pauseTaken]
      split <;> rfl
    · exact exec_askCommand_ok (c := .resumeLane) listening mine short length nofun rfl (takeResume_of_running running)
    · exact exec_askCommand_ok (c := .pauseLane) listening mine short length nofun rfl (takePause_of_paused stopped)
    · exact exec_askCommand_ok (c := .resumeLane) listening mine short length nofun rfl (takeResume_of_paused stopped)
    · exact exec_askCommand_refused (c := .pauseLane) (r := .badState) listening mine short length nofun rfl (takePause_of_jammed jammed)
    · exact exec_askCommand_refused (c := .resumeLane) (r := .badState) listening mine short length nofun rfl
        (takeResume_of_jammed jammed)
  · intro checked cleared
    have short : a.fields.length < 32 := by rw [fields]; exact (by decide : 1 < 32)
    have length : (a.fields.length == 1) = true := by rw [fields]; rfl
    have named : field1 a.fields 0 = blocks.toNat := by rw [fields]; rfl
    by_cases valid : 1 ≤ blocks.toNat ∧ blocks.toNat ≤ 3
    · rw [if_pos valid]
      refine exec_askCommand_ok (c := .clearFault) listening mine short length nofun rfl ?_
      exact takeClearFault_of_blocks s named valid.1 valid.2 rfl rfl
    · rw [if_neg valid]
      refine exec_askCommand_refused (c := .clearFault) (r := .badValue) listening mine short length nofun rfl ?_
      exact takeClearFault_of_wrong s (by rwa [named])

end Sys2Proof.Machine
end

section
/-! SUPPORT. The node after a node reset, from the ask and from RESET_N, and after POWER_ON: what it finds at its eyes, and what the lane then does
(R14, R27, R49, R68, R91, R113, R128, R133, R134, R144, R156 to R158, R166, R170). -/

namespace Sys2Proof.Machine

/-! ### The rescan of a lane without inbound records and reservations -/

theorem rescan_of_bare {s : State} (table : s.admission.table = []) (inbound : s.lane.inbound = []) :
    rescan s = { s with lane := rescanZones s } := by
  have records : held (rescanZones s) ≤ s.lane.zoneCount := held_le (rescanZones s)
  have room : roomSum { s with lane := rescanZones s } = held (rescanZones s) := by
    rw [roomSum, reserved_eq]
    show held (rescanZones s) + s.lane.inbound.length + zonesOf s.admission.table = _
    rw [table, inbound]
    rfl
  have none : held (rescanZones s) + s.lane.inbound.length - s.lane.zoneCount = 0 := by
    rw [inbound]
    exact Nat.sub_eq_zero_of_le records
  rw [rescan, trim_of_room (room.trans_le records), dropExcess]
  refine (if_pos (by rw [table]; rfl)).trans ?_
  show raiseAll _ ((s.lane.inbound.take (held (rescanZones s) + s.lane.inbound.length - s.lane.zoneCount)).map _) { s with
    lane := { rescanZones s with
      inbound := s.lane.inbound.drop (held (rescanZones s) + s.lane.inbound.length - s.lane.zoneCount) } } = _
  rw [none]
  rfl

/-- With no release WAITING the rescan sets the zones, and the lane advances (R128). -/
theorem rescanInPlace_of_bare {s : State} (table : s.admission.table = []) (inbound : s.lane.inbound = [])
    (idle : s.counter.release = .idle) : rescanInPlace s = settleLane (evalReady { s with lane := rescanZones s }) := by
  have still : (evalReady { s with lane := rescanZones s }).counter.release ≠ .waiting := by
    rw [(evalReady_keeps _).2.2]
    show s.counter.release ≠ .waiting
    rw [idle]
    nofun
  have unmoved : zoneZHeld (evalReady { s with lane := rescanZones s }) = evalReady { s with lane := rescanZones s } := if_neg still
  rw [rescanInPlace, rescan_of_bare table inbound, unmoved, ite_self]

/-- A node whose zones are all EMPTY, with no inbound record and the lamp dark, stays as it is. -/
theorem settled_of_emptyZones {s : State} (zones : s.lane.zones = Vector.replicate 8 emptyZone) (none : s.lane.inbound = [])
    (dark : s.counter.readyLit = false) : settleLane (evalReady s) = s := by
  have lit : LampTrue s := dark.trans (readyHolds_of_emptyZones zones).symm
  rw [evalReady_of_lampTrue lit, settleLane_of_rests (laneRests_of_emptyZones zones none)]

/-! ### The node reset -/

/-- The zones that a node reset finds: HELD with their record, or an anonymous one, where the eye reads blocked (R128, R134). -/
def foundZones (s : State) : Vector Zone 8 := Vector.ofFn fun i =>
  if i.val < s.lane.zoneCount ∧ zoneBlocked s (i.val + 1) = true then
    ⟨.held, some ((zone s.lane (i.val + 1)).record.getD ⟨anonymousFields, false⟩), false, none⟩
  else emptyZone

/-- The blocks of the node after a node reset, before the lamp is evaluated. -/
def blocksReset (s : State) : State :=
  let blocked := readsBlocked s.eye.polarity s.pins.eye
  { s with
    belt := { s.belt with acc := 0, timer := 0 }
    eye := { s.eye with
      state := if blocked then .blocked else .clear, lead := none, clearing := none, debounceEnd := none
      blockedDeadline := if blocked then some ⟨plus s.belt.pos s.eye.maxLength, s.eye.maxLength⟩ else none
      context := if blocked then .noLead else .empty }
    tracking := { s.tracking with queue := [], headDeadline := none }
    admission := { s.admission with table := [] }
    diverter := { s.diverter with
      state := .returning, fire := none, release := none, clear := none, flag := false
      phase := some ⟨.returning, 0, s.diverter.geometry.returnTime, 0⟩ }
    lane := { s.lane with
      state := if s.lane.state = .jammed then .running else s.lane.state
      zones := foundZones s, inbound := [], discharge := none, lateTimeout := false }
    counter := ⟨.idle, s.lane.mode, none, 0, false, if s.pins.relBtn then .armed else .spent, none, none, false⟩ }

theorem sampledEye_eq (now : Pos) (level : Bool) (e : Eye) :
    sampledEye now level e = { e with
      state := if readsBlocked e.polarity level then .blocked else .clear, lead := none, clearing := none, debounceEnd := none
      blockedDeadline := if readsBlocked e.polarity level then some ⟨plus now e.maxLength, e.maxLength⟩ else none
      context := if readsBlocked e.polarity level then .noLead else .empty } := by
  unfold sampledEye
  split <;> rfl

theorem rescanZone_eq (blocked : Bool) (z : Zone) :
    rescanZone blocked z = if blocked = true then ⟨.held, some (z.record.getD ⟨anonymousFields, false⟩), false, none⟩ else emptyZone := rfl

/-- A rescan asks for the eyes and for the records that stood in the zones. -/
theorem rescanZones_zones_eq {s t : State} (count : t.lane.zoneCount = s.lane.zoneCount) (eyes : ∀ k, zoneBlocked t k = zoneBlocked s k)
    (records : ∀ k, 1 ≤ k → (zone t.lane k).record = (zone s.lane k).record) : (rescanZones t).zones = foundZones s := by
  refine congrArg Vector.ofFn (funext fun i => ?_)
  rw [count, rescanZone_eq, eyes, records _ (by omega)]
  exact (ite_and _ _ _ _).symm

/-- The blocks with what a node reset loses taken away, before the rescan of the lane. -/
def blocksCleared (s : State) : State :=
  { s with
    belt := resetBelt s.belt
    eye := sampledEye s.belt.pos s.pins.eye s.eye
    tracking := resetTracking s.tracking
    admission := resetAdmission s.admission
    diverter := homeCheck s.diverter
    lane := resetLane s.lane
    counter := resetCounter s.lane.mode s.pins.relBtn }

theorem blocksReset_eq (s : State) : blocksReset s = { blocksCleared s with lane := rescanZones (blocksCleared s) } := by
  have zones : (rescanZones (blocksCleared s)).zones = foundZones s :=
    rescanZones_zones_eq rfl (fun _ => rfl) fun k low => by
      show (zone (stopTimers s.lane) k).record = _
      rw [zone_stopTimers s.lane low]
  rw [blocksReset, ← zones, blocksCleared, sampledEye_eq]
  rfl

theorem resetBlocks_eq (s : State) : resetBlocks s = settleLane (evalReady (blocksReset s)) := by
  rw [blocksReset_eq]
  exact rescanInPlace_of_bare (s := blocksCleared s) rfl rfl rfl

theorem foundZones_of_clear {s : State} (clear : ∀ k, 1 ≤ k → k ≤ s.lane.zoneCount → zoneBlocked s k = false) :
    foundZones s = Vector.replicate 8 emptyZone := by
  refine Vector.ext fun i inside => ?_
  rw [foundZones, Vector.getElem_ofFn, Vector.getElem_replicate]
  refine if_neg fun ⟨low, blocked⟩ => ?_
  rw [clear (i + 1) (by omega) low] at blocked
  cases blocked

/-! ### The ask and the pin -/

/-- The answer of a NODE RESET names the ring position, which the reset keeps. -/
theorem takeNodeReset_answered (a : Ask) (s : State) :
    takeNodeReset (some (answerFrame a.tag AskCode.nodeReset.code (okay false []) s)) s =
      resetBlocks (answered a 0x3F 0 false [] { s with
        report := { s.report with flags := 0, lost := false, cause := .nodeReset }
        line := { s.line with localQueue := [], credit := 0 } }) := by
  rw [answered_ok]
  rfl

theorem exec_nodeReset {a : Ask} {s : State} (listening : Listening s) (mine : Mine a.target s) (fields : a.fields = []) :
    exec (.nodeReset a) s = .next (resetBlocks (answered a 0x3F 0 false [] { s with
      report := { s.report with flags := 0, lost := false, cause := .nodeReset }
      line := { s.line with localQueue := [], credit := 0 } })) := by
  have short : a.fields.length < 32 := by rw [fields]; exact (by decide : 0 < 32)
  have right : AskCode.nodeReset.lengthOk a.fields.length = true := by rw [fields]; rfl
  have taken : answeredAsk a.tag .nodeReset a.fields s =
      takeNodeReset (some (answerFrame a.tag AskCode.nodeReset.code (okay false []) s)) s := by
    rw [answeredAsk, right]
    exact (if_neg Bool.false_ne_true).trans (if_pos rfl)
  refine (exec_askCommand .nodeReset a s).trans ?_
  rw [received_of_listening listening, frameArrives_mine mine a.source a.tag .nodeReset short, taken, takeNodeReset_answered]

theorem followLos_of_same {s : State} (same : linkOfLos s.pins.los = s.line.link) : followLos s = s := if_pos same

theorem followLos_of_change {s : State} (changes : linkOfLos s.pins.los ≠ s.line.link) :
    followLos s = raise .linkChange (linkNote (linkOfLos s.pins.los) s)
      { s with line := { s.line with link := linkOfLos s.pins.los } } := if_neg changes

/-- The Line Port and the Report Unit at the release of RESET_N, before the link state is taken afresh (R158, R170). -/
def portReset (s : State) : State :=
  { s with resetLow := false, report := resetReport .resetPin s.report, line := resetLine s.line }

theorem pinReleased_of_low {s : State} (low : s.resetLow = true) :
    pinReleased s = resetBlocks { followLos (portReset s) with line := arbitrate (followLos (portReset s)).line } := if_pos low

/-- Settles O52: the blocks after the reset written out, with the Line Port and the Report Unit of the ask and of the pin. -/
theorem nodeResetKeepsAndLoses : Obligations.NodeResetKeepsAndLoses := by
  intro s blocked found reset settled
  refine ⟨fun a listening mine fields => ?_, fun low same => ?_, fun link low taken changes => ?_, fun clear => ⟨?_, ?_⟩⟩
  · rw [exec_nodeReset listening mine fields, resetBlocks_eq]
    rfl
  · show (Host.Outcome.next (pinReleased s) : StepResult) = _
    rw [pinReleased_of_low low, followLos_of_same (s := portReset s) same.symm, resetBlocks_eq]
    rfl
  · intro noted
    show (Host.Outcome.next (pinReleased s) : StepResult) = _
    rw [pinReleased_of_low low, followLos_of_change (s := portReset s) fun same => changes (same.symm.trans taken.symm),
      resetBlocks_eq]
    subst taken
    rfl
  · exact foundZones_of_clear clear
  · intro t lane counter
    have zones : t.lane.zones = Vector.replicate 8 emptyZone := (congrArg Lane.zones lane).trans (foundZones_of_clear clear)
    exact congrArg Host.Outcome.next (settled_of_emptyZones zones (congrArg Lane.inbound lane) (congrArg Counter.readyLit counter))

end Sys2Proof.Machine
end

section
/-! SUPPORT. POWER_ON: the node with every setting loaded and its inputs sampled, a lane that advances without a note, and the reset state
(R14, R27, R48, R68, R91, R112, R128, R133, R144, R156, R170). -/

namespace Sys2Proof.Machine

/-! ### A lane that advances without a note -/

/-- The enables are off, no release is under way and no tote is on its way in: what the lane does leaves the Line Port as it is. -/
structure Silent (l : LinePort) (s : State) : Prop where
  off : s.report.globalEnable = false
  idle : s.counter.release = .idle
  inbound : s.lane.inbound = []
  line : s.line = l

theorem raise_line_of_off {s : State} (off : s.report.globalEnable = false) (k : NoteKind) (n : NoteBody) : (raise k n s).line = s.line :=
  if_neg (by rw [noted, off]; exact Bool.false_ne_true)

theorem evalReady_line_of_off {s : State} (off : s.report.globalEnable = false) : (evalReady s).line = s.line := by
  unfold evalReady
  dsimp only
  split
  · split
    · exact raise_line_of_off (s := { s with counter := { s.counter with readyLit := readyHolds s.lane } }) off _ _
    · rfl
  · rfl

section
variable {l : LinePort} {s : State} (h : Silent l s)
include h

theorem Silent.evalReady : Silent l (evalReady s) := by
  obtain ⟨lane, -, counter⟩ := evalReady_keeps s
  refine ⟨(evalReady_laneSide s).globalEnable.trans h.off, ?_, ?_, (evalReady_line_of_off h.off).trans h.line⟩
  · rw [counter]
    exact h.idle
  · rw [lane]
    exact h.inbound

theorem Silent.arrive (k : Nat) : Silent l (arrive k s) := by
  unfold Machine.arrive
  split
  · exact h
  · next r _ =>
    have moved : Silent l (Machine.evalReady { s with
        lane := (putZone k ⟨.held, some r, false, none⟩
          (putZone (k - 1) (transferPart { zone s.lane (k - 1) with record := none }) s.lane)) }) :=
      Silent.evalReady ⟨h.off, h.idle, h.inbound, h.line⟩
    dsimp only
    split
    · rw [zoneZHeld, if_neg (by rw [moved.idle]; nofun)]
      exact moved
    · exact moved

theorem Silent.startTransfer (k : Nat) : Silent l (startTransfer k s) := by
  unfold Machine.startTransfer
  dsimp only
  have started : ∀ lane : Lane, lane.inbound = [] → Silent l (Machine.evalReady { s with lane := lane }) := fun lane none =>
    Silent.evalReady ⟨h.off, h.idle, none, h.line⟩
  split
  · exact Silent.arrive (started (putZone _ _ (putZone k _ s.lane)) h.inbound) _
  · exact started _ h.inbound

theorem Silent.laneRule {t : State} (rule : laneRule s = some t) : Silent l t := by
  rcases laneRule_cases rule with ⟨r, rest, -, waits, -⟩ | ⟨-, -, rfl⟩ | ⟨k, -, -, -, rfl⟩
  · rw [h.inbound] at waits
    cases waits
  · exact Silent.evalReady ⟨h.off, h.idle, h.inbound, h.line⟩
  · exact h.startTransfer k

theorem Silent.settleLane : Silent l (settleLane s) := settleLane_keeps (fun h rule => Silent.laneRule h rule) h

end

/-! ### The node with its supply just applied -/

/-- The node after POWER_ON with its zones set, before the lamp is evaluated. -/
def nodeOn (levels : InputLevels) (enc : Bool) (pending : List Instr) (zones : Vector Zone 8) : State :=
  { belt := ⟨.rising, .ms64, 0, 0, 0, 0, .stopped, enc⟩
    eye := { State.reset.eye with
      polarity := .blockedLow, debounce := 8, maxLength := 1200, nominal := #v[400, 800, 400, 400], tolerance := 60
      state := if levels.eye then .clear else .blocked
      blockedDeadline := if levels.eye then none else some ⟨1200, 1200⟩
      context := if levels.eye then .empty else .noLead }
    tracking := ⟨2000, 100, 100, [], none⟩
    plan := State.reset.plan
    admission := ⟨3, 40000, []⟩
    diverter := ⟨⟨600, 90, 40, 30, 70, 20, 50, 6⟩, .returning, some ⟨.returning, 0, 70, 0⟩, none, none, none, false, 6⟩
    lane := ⟨4, 15, .tote, 150, 200, 900, .blockedLow, .running, zones, [], none, false⟩
    counter := ⟨.idle, .tote, none, 0, false, if levels.relBtn then .armed else .spent, none, none, false⟩
    line := { State.reset.line with link := if levels.los then .down else .up }
    report := ⟨0, 0, false, false, .powerOn⟩
    pins := levels
    resetLow := false
    pending := pending }

/-- The zones that POWER_ON finds: HELD with an anonymous record where the eye reads blocked (R133). -/
def zonesOn (levels : InputLevels) : Vector Zone 8 := Vector.ofFn fun i =>
  if i.val < 4 ∧ levels.zeye.get i = false then ⟨.held, some ⟨anonymousFields, false⟩, false, none⟩ else emptyZone

theorem zoneBlocked_poweredOn (enc : Bool) (levels : InputLevels) (pending : List Instr) (i : Fin 8) :
    zoneBlocked (poweredOn enc levels pending) (i.val + 1) = !levels.zeye.get i := by
  have level : levels.zeye.getD (i.val + 1 - 1) true = levels.zeye.get i := by
    rw [Nat.add_sub_cancel, Vector.getD, Array.getD, dif_pos (by rw [levels.zeye.size_toArray]; exact i.isLt)]
    rfl
  exact congrArg Bool.not level

theorem rescanZones_poweredOn (enc : Bool) (levels : InputLevels) (pending : List Instr) :
    (rescanZones (poweredOn enc levels pending)).zones = zonesOn levels := by
  refine congrArg Vector.ofFn (funext fun i => ?_)
  have empty : zone (poweredOn enc levels pending).lane (i.val + 1) = emptyZone := zone_of_emptyZones rfl _
  rw [zoneBlocked_poweredOn, empty, rescanZone_eq, ite_and]
  cases levels.zeye.get i <;> rfl

theorem sampledEye_reset (level : Bool) :
    sampledEye 0 level State.reset.eye = { State.reset.eye with
      polarity := .blockedLow, debounce := 8, maxLength := 1200, nominal := #v[400, 800, 400, 400], tolerance := 60
      state := if level then .clear else .blocked
      blockedDeadline := if level then none else some ⟨1200, 1200⟩
      context := if level then .empty else .noLead } := by
  cases level <;> rfl

theorem powerUp_eq (enc : Bool) (levels : InputLevels) (s : State) :
    powerUp enc levels s = settleLane (evalReady (nodeOn levels enc s.pending (zonesOn levels))) := by
  have scanned : { poweredOn enc levels s.pending with lane := rescanZones (poweredOn enc levels s.pending) } =
      nodeOn levels enc s.pending (zonesOn levels) := by
    rw [nodeOn, ← sampledEye_reset, ← rescanZones_poweredOn enc levels s.pending]
    rfl
  rw [powerUp, rescanInPlace_of_bare rfl rfl rfl, scanned]

theorem silent_nodeOn (levels : InputLevels) (enc : Bool) (pending : List Instr) (zones : Vector Zone 8) :
    Silent { State.reset.line with link := if levels.los then .down else .up } (settleLane (evalReady (nodeOn levels enc pending zones))) :=
  Silent.settleLane (Silent.evalReady ⟨rfl, rfl, rfl, rfl⟩)

theorem cellOf_passBank (c : Cell) : cellOf passBank c = .pass := by
  have row : passBank.get c.dest = Vector.replicate 4 .pass := Vector.getElem_replicate c.dest.isLt
  rw [cellOf, row]
  exact Vector.getElem_replicate c.cls.isLt

theorem zonesOn_of_clear {levels : InputLevels} (clear : ∀ k : Fin 4, levels.zeye.get ⟨k.val, by omega⟩ = true) :
    zonesOn levels = Vector.replicate 8 emptyZone := by
  refine Vector.ext fun i inside => ?_
  rw [zonesOn, Vector.getElem_ofFn, Vector.getElem_replicate]
  refine if_neg fun ⟨low, blocked⟩ => ?_
  rw [clear ⟨i, low⟩] at blocked
  cases blocked

/-- Settles O54: every setting as POWER_ON loads it, with the Line Port that the lane's first events leave alone. -/
theorem powerOnLoadsEverySetting : Obligations.PowerOnLoadsEverySetting := by
  refine ⟨fun enc levels s => ⟨powerUp enc levels s, rfl, ?_⟩, fun enc levels s => ⟨?_, fun clear => ?_⟩⟩
  · have plan : (powerUp enc levels s).plan = State.reset.plan := (rescanInPlace_laneSide (poweredOn enc levels s.pending)).plan
    have line : (powerUp enc levels s).line = { State.reset.line with link := if levels.los then .down else .up } := by
      rw [powerUp_eq]
      exact (silent_nodeOn levels enc s.pending (zonesOn levels)).line
    have bank : ∀ k, bankCells State.reset.plan k = passBank := bankCells_of_equal rfl rfl
    rw [plan, line]
    refine ⟨fun k c => ?_, fun dest cls => ?_, rfl, rfl, rfl, rfl, rfl, rfl, ?_⟩
    · rw [bank]
      exact cellOf_passBank c
    · cases dest with
      | none => rfl
      | some d => exact (congrArg (fun cells => cellOf cells ⟨d, cls⟩) (bank _)).trans (cellOf_passBank _)
    · unfold txd
      rw [line]
      exact ite_self _
  · exact congrArg Host.Outcome.next (powerUp_eq enc levels s)
  · have zones : (nodeOn levels enc s.pending (zonesOn levels)).lane.zones = Vector.replicate 8 emptyZone := zonesOn_of_clear clear
    refine congrArg Host.Outcome.next ((powerUp_eq enc levels s).trans ?_)
    rw [settled_of_emptyZones zones rfl rfl, zonesOn_of_clear clear]
    rfl

/-! ### The reset state -/

/-- Settles O60: each property of the reset state by evaluation. -/
theorem resetIsSafe : Obligations.ResetIsSafe := by
  unfold Obligations.ResetIsSafe
  refine ⟨by decide, by decide, by decide, by decide, by decide, by decide, by decide, by decide, by decide, by decide, by decide,
    by decide, by decide⟩

end Sys2Proof.Machine
end
